-- ==== Sys2Proof/Word.lean ====
section
/-! DEFINITION. The two word types of the hardware (00_scope.md R7: "Byte width 8 bits; Word/Address width
16 bits"). Every computation on them wraps, which is what `BitVec` arithmetic does (41_arithmetic.md R125). -/

namespace Sys2Proof

/-- A Byte: the width of A, X, Y, SP, P and of every memory access (R7, R53). -/
abbrev Byte := BitVec 8

/-- A Word: the width of PC and of every address (R7). -/
abbrev Word := BitVec 16

end Sys2Proof
end

