-- ==== Sys2Proof/Syntax.lean ====
section
/-! DEFINITION. The instructions, one constructor per row of spec/opcode_table.json (30_encoding.md R75, R82), each
with its operand bytes: a Byte (`ii` immediate, `zz` zero-page address, `dd` displacement, `ss` signature) or a
Word `hhll` (R72). Fields are exact: every value of a constructor's fields is an encodable operand (R73).
A constructor's name is its mnemonic followed by its format; where one mnemonic has several opcodes of one format
(NOP, JAM, ANC, SBC immediate) the opcode follows in hexadecimal.

Beside it: the mnemonic tags over which the hardware dispatches (R92), the formats (R72) and the operand an
instruction hands to the addressing-mode resolver (40_engine.md R93). -/

namespace Sys2Proof

/-- The instruction tags: the 76 mnemonics of the opcode map (30_encoding.md R75, 40_engine.md R92). -/
inductive Mnemonic where
  | adc | sbc | cmp | cpx | cpy | asl | lsr | rol | ror | inc
  | dec | inx | iny | dex | dey | bcc | bcs | beq | bne | bmi
  | bpl | bvc | bvs | pha | php | pla | plp | tsx | txs | jmp
  | jsr | rts | brk | rti | lda | ldx | ldy | sta | stx | sty
  | tax | tay | txa | tya | and | ora | eor | bit | clc | sec
  | cli | sei | cld | sed | clv | nop | slo | rla | sre | rra
  | dcp | isc | sax | lax | anc | alr | arr | xaa | lxa | sbx
  | las | sha | shx | shy | tas | jam
  deriving DecidableEq, Repr

/-- The 14 formats of R72. -/
inductive Format where
  | imp | acc | imm | sig | zp | zpx | zpy | abs | absx | absy | ind | izx | izy | rel
  deriving DecidableEq, Repr

/-- A memory operand: the formats whose effective address the resolver computes for a data access (R96-R98, R101, R102). -/
inductive MemOperand where
  | zp (zz : Byte)
  | zpx (zz : Byte)
  | zpy (zz : Byte)
  | abs (hhll : Word)
  | absx (hhll : Word)
  | absy (hhll : Word)
  | izx (zz : Byte)
  | izy (zz : Byte)
  deriving DecidableEq, Repr

/-- The operand of a reading instruction: an immediate byte (R95) or a memory operand. -/
inductive Source where
  | imm (ii : Byte)
  | mem (m : MemOperand)
  deriving DecidableEq, Repr

/-- The operand of a shift or rotate: the accumulator (the `ACC` sentinel of R93) or a memory operand. -/
inductive Target where
  | acc
  | mem (m : MemOperand)
  deriving DecidableEq, Repr

/-- What follows an opcode byte, in any of the 14 formats (R72). -/
inductive Operand where
  | imp
  | acc
  | imm (ii : Byte)
  | sig (ss : Byte)
  | mem (m : MemOperand)
  | ind (hhll : Word)
  | rel (dd : Byte)
  deriving DecidableEq, Repr

/-- The table entry of one instruction (R70, R82), with the operand bytes it was decoded with. -/
structure Descriptor where
  opcode : Byte
  mnemonic : Mnemonic
  operand : Operand
  deriving DecidableEq, Repr

/-- The instruction set: one constructor for each of the 256 opcodes. -/
inductive Instr where
  -- 41_arithmetic.md
  | adcImm (ii : Byte)
  | adcZp (zz : Byte)
  | adcZpx (zz : Byte)
  | adcAbs (hhll : Word)
  | adcAbsx (hhll : Word)
  | adcAbsy (hhll : Word)
  | adcIzx (zz : Byte)
  | adcIzy (zz : Byte)
  | sbcImm (ii : Byte)
  | sbcZp (zz : Byte)
  | sbcZpx (zz : Byte)
  | sbcAbs (hhll : Word)
  | sbcAbsx (hhll : Word)
  | sbcAbsy (hhll : Word)
  | sbcIzx (zz : Byte)
  | sbcIzy (zz : Byte)
  | cmpImm (ii : Byte)
  | cmpZp (zz : Byte)
  | cmpZpx (zz : Byte)
  | cmpAbs (hhll : Word)
  | cmpAbsx (hhll : Word)
  | cmpAbsy (hhll : Word)
  | cmpIzx (zz : Byte)
  | cmpIzy (zz : Byte)
  | cpxImm (ii : Byte)
  | cpxZp (zz : Byte)
  | cpxAbs (hhll : Word)
  | cpyImm (ii : Byte)
  | cpyZp (zz : Byte)
  | cpyAbs (hhll : Word)
  -- 42_shift_rotate.md
  | aslAcc
  | aslZp (zz : Byte)
  | aslZpx (zz : Byte)
  | aslAbs (hhll : Word)
  | aslAbsx (hhll : Word)
  | lsrAcc
  | lsrZp (zz : Byte)
  | lsrZpx (zz : Byte)
  | lsrAbs (hhll : Word)
  | lsrAbsx (hhll : Word)
  | rolAcc
  | rolZp (zz : Byte)
  | rolZpx (zz : Byte)
  | rolAbs (hhll : Word)
  | rolAbsx (hhll : Word)
  | rorAcc
  | rorZp (zz : Byte)
  | rorZpx (zz : Byte)
  | rorAbs (hhll : Word)
  | rorAbsx (hhll : Word)
  -- 43_inc_dec.md
  | incZp (zz : Byte)
  | incZpx (zz : Byte)
  | incAbs (hhll : Word)
  | incAbsx (hhll : Word)
  | decZp (zz : Byte)
  | decZpx (zz : Byte)
  | decAbs (hhll : Word)
  | decAbsx (hhll : Word)
  | inx
  | iny
  | dex
  | dey
  -- 44_branches.md
  | bcc (dd : Byte)
  | bcs (dd : Byte)
  | beq (dd : Byte)
  | bne (dd : Byte)
  | bmi (dd : Byte)
  | bpl (dd : Byte)
  | bvc (dd : Byte)
  | bvs (dd : Byte)
  -- 45_stack.md
  | pha
  | php
  | pla
  | plp
  | tsx
  | txs
  -- 46_jump_call.md
  | jmpAbs (hhll : Word)
  | jmpInd (hhll : Word)
  | jsrAbs (hhll : Word)
  | rts
  | brk (ss : Byte)
  | rti
  -- 47_load_store_transfer.md
  | ldaImm (ii : Byte)
  | ldaZp (zz : Byte)
  | ldaZpx (zz : Byte)
  | ldaAbs (hhll : Word)
  | ldaAbsx (hhll : Word)
  | ldaAbsy (hhll : Word)
  | ldaIzx (zz : Byte)
  | ldaIzy (zz : Byte)
  | ldxImm (ii : Byte)
  | ldxZp (zz : Byte)
  | ldxZpy (zz : Byte)
  | ldxAbs (hhll : Word)
  | ldxAbsy (hhll : Word)
  | ldyImm (ii : Byte)
  | ldyZp (zz : Byte)
  | ldyZpx (zz : Byte)
  | ldyAbs (hhll : Word)
  | ldyAbsx (hhll : Word)
  | staZp (zz : Byte)
  | staZpx (zz : Byte)
  | staAbs (hhll : Word)
  | staAbsx (hhll : Word)
  | staAbsy (hhll : Word)
  | staIzx (zz : Byte)
  | staIzy (zz : Byte)
  | stxZp (zz : Byte)
  | stxZpy (zz : Byte)
  | stxAbs (hhll : Word)
  | styZp (zz : Byte)
  | styZpx (zz : Byte)
  | styAbs (hhll : Word)
  | tax
  | tay
  | txa
  | tya
  -- 48_logic_flags_nop.md
  | andImm (ii : Byte)
  | andZp (zz : Byte)
  | andZpx (zz : Byte)
  | andAbs (hhll : Word)
  | andAbsx (hhll : Word)
  | andAbsy (hhll : Word)
  | andIzx (zz : Byte)
  | andIzy (zz : Byte)
  | oraImm (ii : Byte)
  | oraZp (zz : Byte)
  | oraZpx (zz : Byte)
  | oraAbs (hhll : Word)
  | oraAbsx (hhll : Word)
  | oraAbsy (hhll : Word)
  | oraIzx (zz : Byte)
  | oraIzy (zz : Byte)
  | eorImm (ii : Byte)
  | eorZp (zz : Byte)
  | eorZpx (zz : Byte)
  | eorAbs (hhll : Word)
  | eorAbsx (hhll : Word)
  | eorAbsy (hhll : Word)
  | eorIzx (zz : Byte)
  | eorIzy (zz : Byte)
  | bitZp (zz : Byte)
  | bitAbs (hhll : Word)
  | clc
  | sec
  | cli
  | sei
  | cld
  | sed
  | clv
  | nop
  -- 49_undocumented.md
  | sloZp (zz : Byte)
  | sloZpx (zz : Byte)
  | sloAbs (hhll : Word)
  | sloAbsx (hhll : Word)
  | sloAbsy (hhll : Word)
  | sloIzx (zz : Byte)
  | sloIzy (zz : Byte)
  | rlaZp (zz : Byte)
  | rlaZpx (zz : Byte)
  | rlaAbs (hhll : Word)
  | rlaAbsx (hhll : Word)
  | rlaAbsy (hhll : Word)
  | rlaIzx (zz : Byte)
  | rlaIzy (zz : Byte)
  | sreZp (zz : Byte)
  | sreZpx (zz : Byte)
  | sreAbs (hhll : Word)
  | sreAbsx (hhll : Word)
  | sreAbsy (hhll : Word)
  | sreIzx (zz : Byte)
  | sreIzy (zz : Byte)
  | rraZp (zz : Byte)
  | rraZpx (zz : Byte)
  | rraAbs (hhll : Word)
  | rraAbsx (hhll : Word)
  | rraAbsy (hhll : Word)
  | rraIzx (zz : Byte)
  | rraIzy (zz : Byte)
  | dcpZp (zz : Byte)
  | dcpZpx (zz : Byte)
  | dcpAbs (hhll : Word)
  | dcpAbsx (hhll : Word)
  | dcpAbsy (hhll : Word)
  | dcpIzx (zz : Byte)
  | dcpIzy (zz : Byte)
  | iscZp (zz : Byte)
  | iscZpx (zz : Byte)
  | iscAbs (hhll : Word)
  | iscAbsx (hhll : Word)
  | iscAbsy (hhll : Word)
  | iscIzx (zz : Byte)
  | iscIzy (zz : Byte)
  | saxZp (zz : Byte)
  | saxZpy (zz : Byte)
  | saxAbs (hhll : Word)
  | saxIzx (zz : Byte)
  | laxZp (zz : Byte)
  | laxZpy (zz : Byte)
  | laxAbs (hhll : Word)
  | laxAbsy (hhll : Word)
  | laxIzx (zz : Byte)
  | laxIzy (zz : Byte)
  | ancImm0B (ii : Byte)
  | ancImm2B (ii : Byte)
  | alrImm (ii : Byte)
  | arrImm (ii : Byte)
  | xaaImm (ii : Byte)
  | lxaImm (ii : Byte)
  | sbxImm (ii : Byte)
  | sbcImmEB (ii : Byte)
  | lasAbsy (hhll : Word)
  | shaAbsy (hhll : Word)
  | shaIzy (zz : Byte)
  | shxAbsy (hhll : Word)
  | shyAbsx (hhll : Word)
  | tasAbsy (hhll : Word)
  | nopImp1A
  | nopImp3A
  | nopImp5A
  | nopImp7A
  | nopImpDA
  | nopImpFA
  | nopImm80 (ii : Byte)
  | nopImm82 (ii : Byte)
  | nopImm89 (ii : Byte)
  | nopImmC2 (ii : Byte)
  | nopImmE2 (ii : Byte)
  | nopZp04 (zz : Byte)
  | nopZp44 (zz : Byte)
  | nopZp64 (zz : Byte)
  | nopZpx14 (zz : Byte)
  | nopZpx34 (zz : Byte)
  | nopZpx54 (zz : Byte)
  | nopZpx74 (zz : Byte)
  | nopZpxD4 (zz : Byte)
  | nopZpxF4 (zz : Byte)
  | nopAbs0C (hhll : Word)
  | nopAbsx1C (hhll : Word)
  | nopAbsx3C (hhll : Word)
  | nopAbsx5C (hhll : Word)
  | nopAbsx7C (hhll : Word)
  | nopAbsxDC (hhll : Word)
  | nopAbsxFC (hhll : Word)
  | jam02
  | jam12
  | jam22
  | jam32
  | jam42
  | jam52
  | jam62
  | jam72
  | jam92
  | jamB2
  | jamD2
  | jamF2
  deriving DecidableEq, Repr

end Sys2Proof
end

