-- ==== Sys2Proof/Machine/Descriptor.lean ====
section
/-! DEFINITION. The Instruction Table as data (30_encoding.md R70, R75): the opcode map in the rows of R75 with
mnemonic and format, and the table entry of each instruction of `Instr`. -/

namespace Sys2Proof

/-- The format of an operand (R72). -/
def MemOperand.format : MemOperand → Format
  | .zp _ => .zp
  | .zpx _ => .zpx
  | .zpy _ => .zpy
  | .abs _ => .abs
  | .absx _ => .absx
  | .absy _ => .absy
  | .izx _ => .izx
  | .izy _ => .izy

/-- The format of an operand (R72). -/
def Operand.format : Operand → Format
  | .imp => .imp
  | .acc => .acc
  | .imm _ => .imm
  | .sig _ => .sig
  | .mem m => m.format
  | .ind _ => .ind
  | .rel _ => .rel

/-- The total instruction length of each format in bytes (R72, R79). -/
def Format.length : Format → Nat
  | .imp | .acc => 1
  | .imm | .sig | .zp | .zpx | .zpy | .izx | .izy | .rel => 2
  | .abs | .absx | .absy | .ind => 3

/-- The total length of an instruction with this operand (R72). -/
def MemOperand.length (m : MemOperand) : Nat := m.format.length

/-- The total length of an instruction with this operand (R72). -/
def Source.length : Source → Nat
  | .imm _ => Format.imm.length
  | .mem m => m.format.length

/-- The total length of an instruction with this operand (R72). -/
def Target.length : Target → Nat
  | .acc => Format.acc.length
  | .mem m => m.format.length

/-- Row 0x of the opcode map (R75). -/
def opcodeRow0 : List (Mnemonic × Format) :=
  [(.brk, .sig), (.ora, .izx), (.jam, .imp), (.slo, .izx),
   (.nop, .zp), (.ora, .zp), (.asl, .zp), (.slo, .zp),
   (.php, .imp), (.ora, .imm), (.asl, .acc), (.anc, .imm),
   (.nop, .abs), (.ora, .abs), (.asl, .abs), (.slo, .abs)]

/-- Row 1x of the opcode map (R75). -/
def opcodeRow1 : List (Mnemonic × Format) :=
  [(.bpl, .rel), (.ora, .izy), (.jam, .imp), (.slo, .izy),
   (.nop, .zpx), (.ora, .zpx), (.asl, .zpx), (.slo, .zpx),
   (.clc, .imp), (.ora, .absy), (.nop, .imp), (.slo, .absy),
   (.nop, .absx), (.ora, .absx), (.asl, .absx), (.slo, .absx)]

/-- Row 2x of the opcode map (R75). -/
def opcodeRow2 : List (Mnemonic × Format) :=
  [(.jsr, .abs), (.and, .izx), (.jam, .imp), (.rla, .izx),
   (.bit, .zp), (.and, .zp), (.rol, .zp), (.rla, .zp),
   (.plp, .imp), (.and, .imm), (.rol, .acc), (.anc, .imm),
   (.bit, .abs), (.and, .abs), (.rol, .abs), (.rla, .abs)]

/-- Row 3x of the opcode map (R75). -/
def opcodeRow3 : List (Mnemonic × Format) :=
  [(.bmi, .rel), (.and, .izy), (.jam, .imp), (.rla, .izy),
   (.nop, .zpx), (.and, .zpx), (.rol, .zpx), (.rla, .zpx),
   (.sec, .imp), (.and, .absy), (.nop, .imp), (.rla, .absy),
   (.nop, .absx), (.and, .absx), (.rol, .absx), (.rla, .absx)]

/-- Row 4x of the opcode map (R75). -/
def opcodeRow4 : List (Mnemonic × Format) :=
  [(.rti, .imp), (.eor, .izx), (.jam, .imp), (.sre, .izx),
   (.nop, .zp), (.eor, .zp), (.lsr, .zp), (.sre, .zp),
   (.pha, .imp), (.eor, .imm), (.lsr, .acc), (.alr, .imm),
   (.jmp, .abs), (.eor, .abs), (.lsr, .abs), (.sre, .abs)]

/-- Row 5x of the opcode map (R75). -/
def opcodeRow5 : List (Mnemonic × Format) :=
  [(.bvc, .rel), (.eor, .izy), (.jam, .imp), (.sre, .izy),
   (.nop, .zpx), (.eor, .zpx), (.lsr, .zpx), (.sre, .zpx),
   (.cli, .imp), (.eor, .absy), (.nop, .imp), (.sre, .absy),
   (.nop, .absx), (.eor, .absx), (.lsr, .absx), (.sre, .absx)]

/-- Row 6x of the opcode map (R75). -/
def opcodeRow6 : List (Mnemonic × Format) :=
  [(.rts, .imp), (.adc, .izx), (.jam, .imp), (.rra, .izx),
   (.nop, .zp), (.adc, .zp), (.ror, .zp), (.rra, .zp),
   (.pla, .imp), (.adc, .imm), (.ror, .acc), (.arr, .imm),
   (.jmp, .ind), (.adc, .abs), (.ror, .abs), (.rra, .abs)]

/-- Row 7x of the opcode map (R75). -/
def opcodeRow7 : List (Mnemonic × Format) :=
  [(.bvs, .rel), (.adc, .izy), (.jam, .imp), (.rra, .izy),
   (.nop, .zpx), (.adc, .zpx), (.ror, .zpx), (.rra, .zpx),
   (.sei, .imp), (.adc, .absy), (.nop, .imp), (.rra, .absy),
   (.nop, .absx), (.adc, .absx), (.ror, .absx), (.rra, .absx)]

/-- Row 8x of the opcode map (R75). -/
def opcodeRow8 : List (Mnemonic × Format) :=
  [(.nop, .imm), (.sta, .izx), (.nop, .imm), (.sax, .izx),
   (.sty, .zp), (.sta, .zp), (.stx, .zp), (.sax, .zp),
   (.dey, .imp), (.nop, .imm), (.txa, .imp), (.xaa, .imm),
   (.sty, .abs), (.sta, .abs), (.stx, .abs), (.sax, .abs)]

/-- Row 9x of the opcode map (R75). -/
def opcodeRow9 : List (Mnemonic × Format) :=
  [(.bcc, .rel), (.sta, .izy), (.jam, .imp), (.sha, .izy),
   (.sty, .zpx), (.sta, .zpx), (.stx, .zpy), (.sax, .zpy),
   (.tya, .imp), (.sta, .absy), (.txs, .imp), (.tas, .absy),
   (.shy, .absx), (.sta, .absx), (.shx, .absy), (.sha, .absy)]

/-- Row Ax of the opcode map (R75). -/
def opcodeRowA : List (Mnemonic × Format) :=
  [(.ldy, .imm), (.lda, .izx), (.ldx, .imm), (.lax, .izx),
   (.ldy, .zp), (.lda, .zp), (.ldx, .zp), (.lax, .zp),
   (.tay, .imp), (.lda, .imm), (.tax, .imp), (.lxa, .imm),
   (.ldy, .abs), (.lda, .abs), (.ldx, .abs), (.lax, .abs)]

/-- Row Bx of the opcode map (R75). -/
def opcodeRowB : List (Mnemonic × Format) :=
  [(.bcs, .rel), (.lda, .izy), (.jam, .imp), (.lax, .izy),
   (.ldy, .zpx), (.lda, .zpx), (.ldx, .zpy), (.lax, .zpy),
   (.clv, .imp), (.lda, .absy), (.tsx, .imp), (.las, .absy),
   (.ldy, .absx), (.lda, .absx), (.ldx, .absy), (.lax, .absy)]

/-- Row Cx of the opcode map (R75). -/
def opcodeRowC : List (Mnemonic × Format) :=
  [(.cpy, .imm), (.cmp, .izx), (.nop, .imm), (.dcp, .izx),
   (.cpy, .zp), (.cmp, .zp), (.dec, .zp), (.dcp, .zp),
   (.iny, .imp), (.cmp, .imm), (.dex, .imp), (.sbx, .imm),
   (.cpy, .abs), (.cmp, .abs), (.dec, .abs), (.dcp, .abs)]

/-- Row Dx of the opcode map (R75). -/
def opcodeRowD : List (Mnemonic × Format) :=
  [(.bne, .rel), (.cmp, .izy), (.jam, .imp), (.dcp, .izy),
   (.nop, .zpx), (.cmp, .zpx), (.dec, .zpx), (.dcp, .zpx),
   (.cld, .imp), (.cmp, .absy), (.nop, .imp), (.dcp, .absy),
   (.nop, .absx), (.cmp, .absx), (.dec, .absx), (.dcp, .absx)]

/-- Row Ex of the opcode map (R75). -/
def opcodeRowE : List (Mnemonic × Format) :=
  [(.cpx, .imm), (.sbc, .izx), (.nop, .imm), (.isc, .izx),
   (.cpx, .zp), (.sbc, .zp), (.inc, .zp), (.isc, .zp),
   (.inx, .imp), (.sbc, .imm), (.nop, .imp), (.sbc, .imm),
   (.cpx, .abs), (.sbc, .abs), (.inc, .abs), (.isc, .abs)]

/-- Row Fx of the opcode map (R75). -/
def opcodeRowF : List (Mnemonic × Format) :=
  [(.beq, .rel), (.sbc, .izy), (.jam, .imp), (.isc, .izy),
   (.nop, .zpx), (.sbc, .zpx), (.inc, .zpx), (.isc, .zpx),
   (.sed, .imp), (.sbc, .absy), (.nop, .imp), (.isc, .absy),
   (.nop, .absx), (.sbc, .absx), (.inc, .absx), (.isc, .absx)]

/-- The opcode map of R75: row = bits 7..4 of the opcode, column = bits 3..0. -/
def opcodeTable : List (List (Mnemonic × Format)) :=
  [opcodeRow0, opcodeRow1, opcodeRow2, opcodeRow3, opcodeRow4, opcodeRow5, opcodeRow6, opcodeRow7,
   opcodeRow8, opcodeRow9, opcodeRowA, opcodeRowB, opcodeRowC, opcodeRowD, opcodeRowE, opcodeRowF]

/-- The table's mnemonic and format for an opcode (R70). -/
def tableEntry (op : Byte) : Option (Mnemonic × Format) :=
  opcodeTable[op.toNat / 16]?.bind fun row => row[op.toNat % 16]?

/-- The table entry of each instruction: its opcode byte, its tag and its operand (R75, R82). -/
def Instr.descriptor : Instr → Descriptor
  | .adcImm ii => ⟨0x69, .adc, .imm ii⟩
  | .adcZp zz => ⟨0x65, .adc, .mem (.zp zz)⟩
  | .adcZpx zz => ⟨0x75, .adc, .mem (.zpx zz)⟩
  | .adcAbs hhll => ⟨0x6D, .adc, .mem (.abs hhll)⟩
  | .adcAbsx hhll => ⟨0x7D, .adc, .mem (.absx hhll)⟩
  | .adcAbsy hhll => ⟨0x79, .adc, .mem (.absy hhll)⟩
  | .adcIzx zz => ⟨0x61, .adc, .mem (.izx zz)⟩
  | .adcIzy zz => ⟨0x71, .adc, .mem (.izy zz)⟩
  | .sbcImm ii => ⟨0xE9, .sbc, .imm ii⟩
  | .sbcZp zz => ⟨0xE5, .sbc, .mem (.zp zz)⟩
  | .sbcZpx zz => ⟨0xF5, .sbc, .mem (.zpx zz)⟩
  | .sbcAbs hhll => ⟨0xED, .sbc, .mem (.abs hhll)⟩
  | .sbcAbsx hhll => ⟨0xFD, .sbc, .mem (.absx hhll)⟩
  | .sbcAbsy hhll => ⟨0xF9, .sbc, .mem (.absy hhll)⟩
  | .sbcIzx zz => ⟨0xE1, .sbc, .mem (.izx zz)⟩
  | .sbcIzy zz => ⟨0xF1, .sbc, .mem (.izy zz)⟩
  | .cmpImm ii => ⟨0xC9, .cmp, .imm ii⟩
  | .cmpZp zz => ⟨0xC5, .cmp, .mem (.zp zz)⟩
  | .cmpZpx zz => ⟨0xD5, .cmp, .mem (.zpx zz)⟩
  | .cmpAbs hhll => ⟨0xCD, .cmp, .mem (.abs hhll)⟩
  | .cmpAbsx hhll => ⟨0xDD, .cmp, .mem (.absx hhll)⟩
  | .cmpAbsy hhll => ⟨0xD9, .cmp, .mem (.absy hhll)⟩
  | .cmpIzx zz => ⟨0xC1, .cmp, .mem (.izx zz)⟩
  | .cmpIzy zz => ⟨0xD1, .cmp, .mem (.izy zz)⟩
  | .cpxImm ii => ⟨0xE0, .cpx, .imm ii⟩
  | .cpxZp zz => ⟨0xE4, .cpx, .mem (.zp zz)⟩
  | .cpxAbs hhll => ⟨0xEC, .cpx, .mem (.abs hhll)⟩
  | .cpyImm ii => ⟨0xC0, .cpy, .imm ii⟩
  | .cpyZp zz => ⟨0xC4, .cpy, .mem (.zp zz)⟩
  | .cpyAbs hhll => ⟨0xCC, .cpy, .mem (.abs hhll)⟩
  | .aslAcc => ⟨0x0A, .asl, .acc⟩
  | .aslZp zz => ⟨0x06, .asl, .mem (.zp zz)⟩
  | .aslZpx zz => ⟨0x16, .asl, .mem (.zpx zz)⟩
  | .aslAbs hhll => ⟨0x0E, .asl, .mem (.abs hhll)⟩
  | .aslAbsx hhll => ⟨0x1E, .asl, .mem (.absx hhll)⟩
  | .lsrAcc => ⟨0x4A, .lsr, .acc⟩
  | .lsrZp zz => ⟨0x46, .lsr, .mem (.zp zz)⟩
  | .lsrZpx zz => ⟨0x56, .lsr, .mem (.zpx zz)⟩
  | .lsrAbs hhll => ⟨0x4E, .lsr, .mem (.abs hhll)⟩
  | .lsrAbsx hhll => ⟨0x5E, .lsr, .mem (.absx hhll)⟩
  | .rolAcc => ⟨0x2A, .rol, .acc⟩
  | .rolZp zz => ⟨0x26, .rol, .mem (.zp zz)⟩
  | .rolZpx zz => ⟨0x36, .rol, .mem (.zpx zz)⟩
  | .rolAbs hhll => ⟨0x2E, .rol, .mem (.abs hhll)⟩
  | .rolAbsx hhll => ⟨0x3E, .rol, .mem (.absx hhll)⟩
  | .rorAcc => ⟨0x6A, .ror, .acc⟩
  | .rorZp zz => ⟨0x66, .ror, .mem (.zp zz)⟩
  | .rorZpx zz => ⟨0x76, .ror, .mem (.zpx zz)⟩
  | .rorAbs hhll => ⟨0x6E, .ror, .mem (.abs hhll)⟩
  | .rorAbsx hhll => ⟨0x7E, .ror, .mem (.absx hhll)⟩
  | .incZp zz => ⟨0xE6, .inc, .mem (.zp zz)⟩
  | .incZpx zz => ⟨0xF6, .inc, .mem (.zpx zz)⟩
  | .incAbs hhll => ⟨0xEE, .inc, .mem (.abs hhll)⟩
  | .incAbsx hhll => ⟨0xFE, .inc, .mem (.absx hhll)⟩
  | .decZp zz => ⟨0xC6, .dec, .mem (.zp zz)⟩
  | .decZpx zz => ⟨0xD6, .dec, .mem (.zpx zz)⟩
  | .decAbs hhll => ⟨0xCE, .dec, .mem (.abs hhll)⟩
  | .decAbsx hhll => ⟨0xDE, .dec, .mem (.absx hhll)⟩
  | .inx => ⟨0xE8, .inx, .imp⟩
  | .iny => ⟨0xC8, .iny, .imp⟩
  | .dex => ⟨0xCA, .dex, .imp⟩
  | .dey => ⟨0x88, .dey, .imp⟩
  | .bcc dd => ⟨0x90, .bcc, .rel dd⟩
  | .bcs dd => ⟨0xB0, .bcs, .rel dd⟩
  | .beq dd => ⟨0xF0, .beq, .rel dd⟩
  | .bne dd => ⟨0xD0, .bne, .rel dd⟩
  | .bmi dd => ⟨0x30, .bmi, .rel dd⟩
  | .bpl dd => ⟨0x10, .bpl, .rel dd⟩
  | .bvc dd => ⟨0x50, .bvc, .rel dd⟩
  | .bvs dd => ⟨0x70, .bvs, .rel dd⟩
  | .pha => ⟨0x48, .pha, .imp⟩
  | .php => ⟨0x08, .php, .imp⟩
  | .pla => ⟨0x68, .pla, .imp⟩
  | .plp => ⟨0x28, .plp, .imp⟩
  | .tsx => ⟨0xBA, .tsx, .imp⟩
  | .txs => ⟨0x9A, .txs, .imp⟩
  | .jmpAbs hhll => ⟨0x4C, .jmp, .mem (.abs hhll)⟩
  | .jmpInd hhll => ⟨0x6C, .jmp, .ind hhll⟩
  | .jsrAbs hhll => ⟨0x20, .jsr, .mem (.abs hhll)⟩
  | .rts => ⟨0x60, .rts, .imp⟩
  | .brk ss => ⟨0x00, .brk, .sig ss⟩
  | .rti => ⟨0x40, .rti, .imp⟩
  | .ldaImm ii => ⟨0xA9, .lda, .imm ii⟩
  | .ldaZp zz => ⟨0xA5, .lda, .mem (.zp zz)⟩
  | .ldaZpx zz => ⟨0xB5, .lda, .mem (.zpx zz)⟩
  | .ldaAbs hhll => ⟨0xAD, .lda, .mem (.abs hhll)⟩
  | .ldaAbsx hhll => ⟨0xBD, .lda, .mem (.absx hhll)⟩
  | .ldaAbsy hhll => ⟨0xB9, .lda, .mem (.absy hhll)⟩
  | .ldaIzx zz => ⟨0xA1, .lda, .mem (.izx zz)⟩
  | .ldaIzy zz => ⟨0xB1, .lda, .mem (.izy zz)⟩
  | .ldxImm ii => ⟨0xA2, .ldx, .imm ii⟩
  | .ldxZp zz => ⟨0xA6, .ldx, .mem (.zp zz)⟩
  | .ldxZpy zz => ⟨0xB6, .ldx, .mem (.zpy zz)⟩
  | .ldxAbs hhll => ⟨0xAE, .ldx, .mem (.abs hhll)⟩
  | .ldxAbsy hhll => ⟨0xBE, .ldx, .mem (.absy hhll)⟩
  | .ldyImm ii => ⟨0xA0, .ldy, .imm ii⟩
  | .ldyZp zz => ⟨0xA4, .ldy, .mem (.zp zz)⟩
  | .ldyZpx zz => ⟨0xB4, .ldy, .mem (.zpx zz)⟩
  | .ldyAbs hhll => ⟨0xAC, .ldy, .mem (.abs hhll)⟩
  | .ldyAbsx hhll => ⟨0xBC, .ldy, .mem (.absx hhll)⟩
  | .staZp zz => ⟨0x85, .sta, .mem (.zp zz)⟩
  | .staZpx zz => ⟨0x95, .sta, .mem (.zpx zz)⟩
  | .staAbs hhll => ⟨0x8D, .sta, .mem (.abs hhll)⟩
  | .staAbsx hhll => ⟨0x9D, .sta, .mem (.absx hhll)⟩
  | .staAbsy hhll => ⟨0x99, .sta, .mem (.absy hhll)⟩
  | .staIzx zz => ⟨0x81, .sta, .mem (.izx zz)⟩
  | .staIzy zz => ⟨0x91, .sta, .mem (.izy zz)⟩
  | .stxZp zz => ⟨0x86, .stx, .mem (.zp zz)⟩
  | .stxZpy zz => ⟨0x96, .stx, .mem (.zpy zz)⟩
  | .stxAbs hhll => ⟨0x8E, .stx, .mem (.abs hhll)⟩
  | .styZp zz => ⟨0x84, .sty, .mem (.zp zz)⟩
  | .styZpx zz => ⟨0x94, .sty, .mem (.zpx zz)⟩
  | .styAbs hhll => ⟨0x8C, .sty, .mem (.abs hhll)⟩
  | .tax => ⟨0xAA, .tax, .imp⟩
  | .tay => ⟨0xA8, .tay, .imp⟩
  | .txa => ⟨0x8A, .txa, .imp⟩
  | .tya => ⟨0x98, .tya, .imp⟩
  | .andImm ii => ⟨0x29, .and, .imm ii⟩
  | .andZp zz => ⟨0x25, .and, .mem (.zp zz)⟩
  | .andZpx zz => ⟨0x35, .and, .mem (.zpx zz)⟩
  | .andAbs hhll => ⟨0x2D, .and, .mem (.abs hhll)⟩
  | .andAbsx hhll => ⟨0x3D, .and, .mem (.absx hhll)⟩
  | .andAbsy hhll => ⟨0x39, .and, .mem (.absy hhll)⟩
  | .andIzx zz => ⟨0x21, .and, .mem (.izx zz)⟩
  | .andIzy zz => ⟨0x31, .and, .mem (.izy zz)⟩
  | .oraImm ii => ⟨0x09, .ora, .imm ii⟩
  | .oraZp zz => ⟨0x05, .ora, .mem (.zp zz)⟩
  | .oraZpx zz => ⟨0x15, .ora, .mem (.zpx zz)⟩
  | .oraAbs hhll => ⟨0x0D, .ora, .mem (.abs hhll)⟩
  | .oraAbsx hhll => ⟨0x1D, .ora, .mem (.absx hhll)⟩
  | .oraAbsy hhll => ⟨0x19, .ora, .mem (.absy hhll)⟩
  | .oraIzx zz => ⟨0x01, .ora, .mem (.izx zz)⟩
  | .oraIzy zz => ⟨0x11, .ora, .mem (.izy zz)⟩
  | .eorImm ii => ⟨0x49, .eor, .imm ii⟩
  | .eorZp zz => ⟨0x45, .eor, .mem (.zp zz)⟩
  | .eorZpx zz => ⟨0x55, .eor, .mem (.zpx zz)⟩
  | .eorAbs hhll => ⟨0x4D, .eor, .mem (.abs hhll)⟩
  | .eorAbsx hhll => ⟨0x5D, .eor, .mem (.absx hhll)⟩
  | .eorAbsy hhll => ⟨0x59, .eor, .mem (.absy hhll)⟩
  | .eorIzx zz => ⟨0x41, .eor, .mem (.izx zz)⟩
  | .eorIzy zz => ⟨0x51, .eor, .mem (.izy zz)⟩
  | .bitZp zz => ⟨0x24, .bit, .mem (.zp zz)⟩
  | .bitAbs hhll => ⟨0x2C, .bit, .mem (.abs hhll)⟩
  | .clc => ⟨0x18, .clc, .imp⟩
  | .sec => ⟨0x38, .sec, .imp⟩
  | .cli => ⟨0x58, .cli, .imp⟩
  | .sei => ⟨0x78, .sei, .imp⟩
  | .cld => ⟨0xD8, .cld, .imp⟩
  | .sed => ⟨0xF8, .sed, .imp⟩
  | .clv => ⟨0xB8, .clv, .imp⟩
  | .nop => ⟨0xEA, .nop, .imp⟩
  | .sloZp zz => ⟨0x07, .slo, .mem (.zp zz)⟩
  | .sloZpx zz => ⟨0x17, .slo, .mem (.zpx zz)⟩
  | .sloAbs hhll => ⟨0x0F, .slo, .mem (.abs hhll)⟩
  | .sloAbsx hhll => ⟨0x1F, .slo, .mem (.absx hhll)⟩
  | .sloAbsy hhll => ⟨0x1B, .slo, .mem (.absy hhll)⟩
  | .sloIzx zz => ⟨0x03, .slo, .mem (.izx zz)⟩
  | .sloIzy zz => ⟨0x13, .slo, .mem (.izy zz)⟩
  | .rlaZp zz => ⟨0x27, .rla, .mem (.zp zz)⟩
  | .rlaZpx zz => ⟨0x37, .rla, .mem (.zpx zz)⟩
  | .rlaAbs hhll => ⟨0x2F, .rla, .mem (.abs hhll)⟩
  | .rlaAbsx hhll => ⟨0x3F, .rla, .mem (.absx hhll)⟩
  | .rlaAbsy hhll => ⟨0x3B, .rla, .mem (.absy hhll)⟩
  | .rlaIzx zz => ⟨0x23, .rla, .mem (.izx zz)⟩
  | .rlaIzy zz => ⟨0x33, .rla, .mem (.izy zz)⟩
  | .sreZp zz => ⟨0x47, .sre, .mem (.zp zz)⟩
  | .sreZpx zz => ⟨0x57, .sre, .mem (.zpx zz)⟩
  | .sreAbs hhll => ⟨0x4F, .sre, .mem (.abs hhll)⟩
  | .sreAbsx hhll => ⟨0x5F, .sre, .mem (.absx hhll)⟩
  | .sreAbsy hhll => ⟨0x5B, .sre, .mem (.absy hhll)⟩
  | .sreIzx zz => ⟨0x43, .sre, .mem (.izx zz)⟩
  | .sreIzy zz => ⟨0x53, .sre, .mem (.izy zz)⟩
  | .rraZp zz => ⟨0x67, .rra, .mem (.zp zz)⟩
  | .rraZpx zz => ⟨0x77, .rra, .mem (.zpx zz)⟩
  | .rraAbs hhll => ⟨0x6F, .rra, .mem (.abs hhll)⟩
  | .rraAbsx hhll => ⟨0x7F, .rra, .mem (.absx hhll)⟩
  | .rraAbsy hhll => ⟨0x7B, .rra, .mem (.absy hhll)⟩
  | .rraIzx zz => ⟨0x63, .rra, .mem (.izx zz)⟩
  | .rraIzy zz => ⟨0x73, .rra, .mem (.izy zz)⟩
  | .dcpZp zz => ⟨0xC7, .dcp, .mem (.zp zz)⟩
  | .dcpZpx zz => ⟨0xD7, .dcp, .mem (.zpx zz)⟩
  | .dcpAbs hhll => ⟨0xCF, .dcp, .mem (.abs hhll)⟩
  | .dcpAbsx hhll => ⟨0xDF, .dcp, .mem (.absx hhll)⟩
  | .dcpAbsy hhll => ⟨0xDB, .dcp, .mem (.absy hhll)⟩
  | .dcpIzx zz => ⟨0xC3, .dcp, .mem (.izx zz)⟩
  | .dcpIzy zz => ⟨0xD3, .dcp, .mem (.izy zz)⟩
  | .iscZp zz => ⟨0xE7, .isc, .mem (.zp zz)⟩
  | .iscZpx zz => ⟨0xF7, .isc, .mem (.zpx zz)⟩
  | .iscAbs hhll => ⟨0xEF, .isc, .mem (.abs hhll)⟩
  | .iscAbsx hhll => ⟨0xFF, .isc, .mem (.absx hhll)⟩
  | .iscAbsy hhll => ⟨0xFB, .isc, .mem (.absy hhll)⟩
  | .iscIzx zz => ⟨0xE3, .isc, .mem (.izx zz)⟩
  | .iscIzy zz => ⟨0xF3, .isc, .mem (.izy zz)⟩
  | .saxZp zz => ⟨0x87, .sax, .mem (.zp zz)⟩
  | .saxZpy zz => ⟨0x97, .sax, .mem (.zpy zz)⟩
  | .saxAbs hhll => ⟨0x8F, .sax, .mem (.abs hhll)⟩
  | .saxIzx zz => ⟨0x83, .sax, .mem (.izx zz)⟩
  | .laxZp zz => ⟨0xA7, .lax, .mem (.zp zz)⟩
  | .laxZpy zz => ⟨0xB7, .lax, .mem (.zpy zz)⟩
  | .laxAbs hhll => ⟨0xAF, .lax, .mem (.abs hhll)⟩
  | .laxAbsy hhll => ⟨0xBF, .lax, .mem (.absy hhll)⟩
  | .laxIzx zz => ⟨0xA3, .lax, .mem (.izx zz)⟩
  | .laxIzy zz => ⟨0xB3, .lax, .mem (.izy zz)⟩
  | .ancImm0B ii => ⟨0x0B, .anc, .imm ii⟩
  | .ancImm2B ii => ⟨0x2B, .anc, .imm ii⟩
  | .alrImm ii => ⟨0x4B, .alr, .imm ii⟩
  | .arrImm ii => ⟨0x6B, .arr, .imm ii⟩
  | .xaaImm ii => ⟨0x8B, .xaa, .imm ii⟩
  | .lxaImm ii => ⟨0xAB, .lxa, .imm ii⟩
  | .sbxImm ii => ⟨0xCB, .sbx, .imm ii⟩
  | .sbcImmEB ii => ⟨0xEB, .sbc, .imm ii⟩
  | .lasAbsy hhll => ⟨0xBB, .las, .mem (.absy hhll)⟩
  | .shaAbsy hhll => ⟨0x9F, .sha, .mem (.absy hhll)⟩
  | .shaIzy zz => ⟨0x93, .sha, .mem (.izy zz)⟩
  | .shxAbsy hhll => ⟨0x9E, .shx, .mem (.absy hhll)⟩
  | .shyAbsx hhll => ⟨0x9C, .shy, .mem (.absx hhll)⟩
  | .tasAbsy hhll => ⟨0x9B, .tas, .mem (.absy hhll)⟩
  | .nopImp1A => ⟨0x1A, .nop, .imp⟩
  | .nopImp3A => ⟨0x3A, .nop, .imp⟩
  | .nopImp5A => ⟨0x5A, .nop, .imp⟩
  | .nopImp7A => ⟨0x7A, .nop, .imp⟩
  | .nopImpDA => ⟨0xDA, .nop, .imp⟩
  | .nopImpFA => ⟨0xFA, .nop, .imp⟩
  | .nopImm80 ii => ⟨0x80, .nop, .imm ii⟩
  | .nopImm82 ii => ⟨0x82, .nop, .imm ii⟩
  | .nopImm89 ii => ⟨0x89, .nop, .imm ii⟩
  | .nopImmC2 ii => ⟨0xC2, .nop, .imm ii⟩
  | .nopImmE2 ii => ⟨0xE2, .nop, .imm ii⟩
  | .nopZp04 zz => ⟨0x04, .nop, .mem (.zp zz)⟩
  | .nopZp44 zz => ⟨0x44, .nop, .mem (.zp zz)⟩
  | .nopZp64 zz => ⟨0x64, .nop, .mem (.zp zz)⟩
  | .nopZpx14 zz => ⟨0x14, .nop, .mem (.zpx zz)⟩
  | .nopZpx34 zz => ⟨0x34, .nop, .mem (.zpx zz)⟩
  | .nopZpx54 zz => ⟨0x54, .nop, .mem (.zpx zz)⟩
  | .nopZpx74 zz => ⟨0x74, .nop, .mem (.zpx zz)⟩
  | .nopZpxD4 zz => ⟨0xD4, .nop, .mem (.zpx zz)⟩
  | .nopZpxF4 zz => ⟨0xF4, .nop, .mem (.zpx zz)⟩
  | .nopAbs0C hhll => ⟨0x0C, .nop, .mem (.abs hhll)⟩
  | .nopAbsx1C hhll => ⟨0x1C, .nop, .mem (.absx hhll)⟩
  | .nopAbsx3C hhll => ⟨0x3C, .nop, .mem (.absx hhll)⟩
  | .nopAbsx5C hhll => ⟨0x5C, .nop, .mem (.absx hhll)⟩
  | .nopAbsx7C hhll => ⟨0x7C, .nop, .mem (.absx hhll)⟩
  | .nopAbsxDC hhll => ⟨0xDC, .nop, .mem (.absx hhll)⟩
  | .nopAbsxFC hhll => ⟨0xFC, .nop, .mem (.absx hhll)⟩
  | .jam02 => ⟨0x02, .jam, .imp⟩
  | .jam12 => ⟨0x12, .jam, .imp⟩
  | .jam22 => ⟨0x22, .jam, .imp⟩
  | .jam32 => ⟨0x32, .jam, .imp⟩
  | .jam42 => ⟨0x42, .jam, .imp⟩
  | .jam52 => ⟨0x52, .jam, .imp⟩
  | .jam62 => ⟨0x62, .jam, .imp⟩
  | .jam72 => ⟨0x72, .jam, .imp⟩
  | .jam92 => ⟨0x92, .jam, .imp⟩
  | .jamB2 => ⟨0xB2, .jam, .imp⟩
  | .jamD2 => ⟨0xD2, .jam, .imp⟩
  | .jamF2 => ⟨0xF2, .jam, .imp⟩

/-- The instruction's tag (R92). -/
def Instr.mnemonic (i : Instr) : Mnemonic := i.descriptor.mnemonic

/-- The instruction's opcode byte (R75). -/
def Instr.opcode (i : Instr) : Byte := i.descriptor.opcode

/-- The instruction's operand (R72). -/
def Instr.operand (i : Instr) : Operand := i.descriptor.operand

/-- The instruction's total length in bytes (R72). -/
def Instr.length (i : Instr) : Nat := i.operand.format.length

end Sys2Proof
end

