-- ==== Sys2Proof/Config.lean ====
section
/-! DEFINITION. The parameters of this hardware (00_scope.md R7), each fixed by the spec.

The parameters that are a value stand here. The other parameters of R7 choose between behaviours, and the model
codes the one behaviour the spec takes: `DECIMAL_MODE = binary` (no arithmetic reads P.D, Flags.lean),
`SHX_PAGE_CROSS = corrupt_high_byte` (`State.highByteStore`), `BRK_LENGTH = 2` (the `sig` format),
`BRK_VECTOR_ORDER` low byte first (`Memory.readWord`), `HALT_OPCODES` (the twelve JAM constructors).
The spec leaves no value open (93_implementation_defined.md: "No behaviour of the defined state space is left as
`any value`"), so there is no free value here. -/

namespace Sys2Proof.Config

/-- The address of the low byte of the reset vector (R7, R261). -/
def resetVector : Word := 0xFFFC

/-- The address of the low byte of the software-interrupt vector (R7, R175; order: 92 D25). -/
def brkVector : Word := 0xFFFE

/-- The first address of the stack page, 0x0100..0x01FF (R7, R160). -/
def stackPage : Word := 0x0100

/-- The constant of opcode 0x8B (R7 `XAA_MAGIC`, R222, 92 D15). -/
def xaaMagic : Byte := 0xFF

/-- The constant of opcode 0xAB (R7 `LXA_MAGIC`, R223, 92 D15). -/
def lxaMagic : Byte := 0xFF

end Sys2Proof.Config
end

