-- ==== Sys2Proof/Machine/State.lean ====
section
/-! DEFINITION. The whole architectural state, the tuple `S = (A, X, Y, SP, PC, P, Mem)` of 10_state.md R20, the
reasons a step can stop, and the state after reset. R39: there is no hidden state and no latch of an outcome. -/

namespace Sys2Proof.Machine

/-- The memory of R38, as the list of the cells that do not hold 0x00: addresses strictly rising, no cell with the
byte 0x00, which is what an address that is not listed reads as ("At construction every byte is 0x00", R38). -/
abbrev Memory := List Host.Cell

/-- The state of R20. -/
structure State where
  /-- the accumulator A (R21) -/
  a : Byte
  /-- index register X (R22) -/
  x : Byte
  /-- index register Y (R23) -/
  y : Byte
  /-- the stack pointer SP, an offset into the stack page (R25) -/
  sp : Byte
  /-- the program counter PC (R26) -/
  pc : Word
  /-- the status register P, all eight bits stored (R27) -/
  p : Byte
  /-- the 65,536 bytes of memory (R38) -/
  mem : Memory
  deriving DecidableEq, Repr

/-- Why a step stops the machine (40_engine.md R107). Each leaves the state exactly as it was at the start of the step
(00_scope.md R12). -/
inductive Fault where
  /-- The outcome Stopped: raised by the twelve JAM opcodes and by nothing else (R233, R242). Safe: the spec says the
  step returns Stopped and changes nothing. -/
  | stopped
  /-- The outcome Error(OutOfBoundsProgramCounter) (60_exceptions.md R241): raised by the fetch when PC is outside
  0x0000..0xFFFF. Safe: the spec keeps the check and says it is never true, PC being a Word (R91). -/
  | outOfBoundsProgramCounter
  /-- The outcome Error(UnmappedOpcode) (R241): raised by the fetch for an opcode without a table row. Safe: the
  table is total, so it is unreachable (R70). -/
  | unmappedOpcode
  deriving DecidableEq, Repr

/-- Why an instruction has no meaning. -/
inductive Refusal where
  /-- Raised by `exec` for an instruction without a meaning; no instruction of this model is in that case. Safe: the
  model stops where the hardware goes on. -/
  | notModelled (mnemonic : String)
  deriving DecidableEq, Repr

/-- What a step or a meaning answers. -/
abbrev Result := Host.Outcome State Fault Refusal

/-- The machine right after reset with nothing loaded: the registers of 70_reset_and_hazards.md R260, every byte of
memory 0x00 (R38, R264), and PC the reset vector read from that memory, 0x0000 (R261, R264). It is what `construct()`
leaves (R265). -/
def State.reset : State :=
  { a := 0x00, x := 0x00, y := 0x00, sp := 0xFF, pc := 0x0000, p := 0x00, mem := [] }

end Sys2Proof.Machine
end

