-- ==== Sys2Proof/Machine/Flags.lean ====
section
/-! DEFINITION. The status flags (10_state.md R27, R28) and every result and flag computation of the ALU, written as the
spec writes them: on exact integers, then narrowed (41_arithmetic.md R125). Nothing here reads P.D (R126). -/

namespace Sys2Proof.Machine

/-- The eight flags of P (R27). -/
inductive Flag where
  | c | z | i | d | b | u | v | n
  deriving DecidableEq, Repr

/-- A flag's bit number in P (R27). -/
def Flag.bit : Flag → Nat
  | .c => 0
  | .z => 1
  | .i => 2
  | .d => 3
  | .b => 4
  | .u => 5
  | .v => 6
  | .n => 7

/-- The Byte with only the flag's bit set. -/
def Flag.mask (f : Flag) : Byte := (1 : Byte) <<< f.bit

/-- `get_flag(f)` returns `P[f]` (R28). -/
def getFlag (p : Byte) (f : Flag) : Bool := p.getLsbD f.bit

/-- `set_flag(f, b)` sets or clears exactly that bit (R28). -/
def setFlag (p : Byte) (f : Flag) (b : Bool) : Byte :=
  if b then p ||| f.mask else p &&& ~~~f.mask

/-- `SetNZ(r)`: Z then N from a result Byte, no other flag (00_scope.md R13). -/
def setNZ (p r : Byte) : Byte :=
  setFlag (setFlag p .z (r == 0)) .n (r.getLsbD 7)

/-- The status byte PHP and BRK push: P with B and U set (45_stack.md R164, 46_jump_call.md R175). -/
def pushedStatus (p : Byte) : Byte := p ||| 0x30

/-- The P that PLP and RTI leave: bits 7, 6, 3, 2, 1, 0 from the pulled byte, B and U as stored (R166, R176). -/
def pulledStatus (p v : Byte) : Byte := (v &&& 0xCF) ||| (p &&& 0x30)

/-- A flag as a carry-in. -/
def carryNat (c : Bool) : Nat := if c then 1 else 0

/-! ### ADC (R120) -/

/-- `integer(A) + integer(m) + integer(P.C)`. -/
def adcSum (a m : Byte) (c : Bool) : Nat := a.toNat + m.toNat + carryNat c

/-- The sum modulo 256. -/
def adcResult (a m : Byte) (c : Bool) : Byte := BitVec.ofNat 8 (adcSum a m c)

/-- The sum exceeds 255. -/
def adcCarry (a m : Byte) (c : Bool) : Bool := decide (adcSum a m c > 255)

/-- `((A ^ r) & (m ^ r) & 0x80) != 0`. -/
def adcOverflow (a m : Byte) (c : Bool) : Bool :=
  let r := adcResult a m c
  ((a ^^^ r) &&& (m ^^^ r) &&& 0x80) != 0

/-! ### SBC (R121) -/

/-- `integer(A) - integer(m) - (1 - integer(P.C))`. -/
def sbcDiff (a m : Byte) (c : Bool) : Int := (a.toNat : Int) - m.toNat - (1 - carryNat c)

/-- The difference modulo 256. -/
def sbcResult (a m : Byte) (c : Bool) : Byte := BitVec.ofInt 8 (sbcDiff a m c)

/-- No borrow. -/
def sbcCarry (a m : Byte) (c : Bool) : Bool := decide (sbcDiff a m c ≥ 0)

/-- `((A ^ m) & (A ^ r) & 0x80) != 0`. -/
def sbcOverflow (a m : Byte) (c : Bool) : Bool :=
  let r := sbcResult a m c
  ((a ^^^ m) &&& (a ^^^ r) &&& 0x80) != 0

/-! ### Compare (R122-R124, R217, R224): no borrow term, whatever P.C holds (90_conflicts.md C4) -/

/-- `(reg - m) mod 256`. -/
def cmpResult (reg m : Byte) : Byte := reg - m

/-- `reg >= m`, unsigned. -/
def cmpCarry (reg m : Byte) : Bool := decide (reg ≥ m)

/-! ### Shifts and rotates by one bit (R130-R133) -/

/-- `(v << 1) & 0xFF`: bit 0 becomes 0 (R130). -/
def aslResult (v : Byte) : Byte := v <<< 1

/-- `v >> 1`: bit 7 becomes 0 (R131). -/
def lsrResult (v : Byte) : Byte := v >>> 1

/-- `((v << 1) | c_old) & 0xFF`: the old carry enters bit 0 (R132). -/
def rolResult (v : Byte) (c : Bool) : Byte := (v <<< 1) ||| BitVec.ofNat 8 (carryNat c)

/-- `(v >> 1) | (c_old << 7)`: the old carry enters bit 7 (R133). -/
def rorResult (v : Byte) (c : Bool) : Byte := (v >>> 1) ||| (BitVec.ofNat 8 (carryNat c) <<< 7)

/-- The bit a left shift or rotate moves out: `v[7]`. -/
def leftOut (v : Byte) : Bool := v.getLsbD 7

/-- The bit a right shift or rotate moves out: `v[0]`. -/
def rightOut (v : Byte) : Bool := v.getLsbD 0

/-! ### ARR (R221) -/

/-- `P.C <- r[6]`. -/
def arrCarry (r : Byte) : Bool := r.getLsbD 6

/-- `P.V <- r[6] ^ r[5]`. -/
def arrOverflow (r : Byte) : Bool := r.getLsbD 6 ^^ r.getLsbD 5

end Sys2Proof.Machine
end

