-- ==== Sys2Proof/Machine/Ops.lean ====
section
/-! DEFINITION. The named operations over memory, registers and the stack, and the software interrupt: its entry, as
one shared operation, and the return from it. -/

namespace Sys2Proof.Machine

/-! ### Memory (10_state.md R38, 20_memory.md R55) -/

/-- The canonical form: addresses strictly rising and inside the 65,536-byte space, no cell holding 0x00. -/
abbrev Memory.wf (m : Memory) : Prop :=
  m.Pairwise (fun c d => c.1 < d.1) ∧ ∀ c ∈ m, c.1 < 65536 ∧ c.2 ≠ 0

/-- The byte at a key: the listed one, 0x00 where none is listed (R38). -/
def Memory.lookupCell : Memory → Nat → Byte
  | [], _ => 0x00
  | (k, v) :: m, n => if k = n then v else Memory.lookupCell m n

/-- Puts a cell before the first cell with a larger address. -/
def Memory.insertCell : Memory → Host.Cell → Memory
  | [], c => [c]
  | d :: m, c => if c.1 < d.1 then c :: d :: m else d :: Memory.insertCell m c

/-- `MemRead(addr, 1)` (00_scope.md R10): every address is valid and reading has no side effect (R38, R55). -/
def Memory.read (m : Memory) (addr : Word) : Byte := Memory.lookupCell m addr.toNat

/-- `MemWrite(addr, 1, v)` (R10), kept canonical: writing 0x00 removes the cell. -/
def Memory.write (m : Memory) (addr : Word) (v : Byte) : Memory :=
  let rest := m.filter fun c => c.1 != addr.toNat
  if v = 0x00 then rest else Memory.insertCell rest (addr.toNat, v)

/-- `ReadWord(a)` is `Mem[a + 1] : Mem[a]`, `a + 1` modulo 65,536 (R10, R50). -/
def Memory.readWord (m : Memory) (addr : Word) : Word :=
  joinBytes (m.read (addr + 1)) (m.read addr)

/-- The Word at a zero-page pointer, whose second byte is read inside the zero page (R101, R102, 92 D5). -/
def Memory.readZeroPageWord (m : Memory) (z : Byte) : Word :=
  joinBytes (m.read (zext16 (z + 1))) (m.read (zext16 z))

/-- The Word an indirect pointer designates, whose second byte is read inside the pointer's page (R99). -/
def Memory.readPageWord (m : Memory) (ptr : Word) : Word :=
  joinBytes (m.read ((ptr &&& 0xFF00) ||| ((ptr + 1) &&& 0x00FF))) (m.read ptr)

/-- The bytes at `addr`, `addr + 1`, ..., addresses modulo 65,536 (20_memory.md R51). -/
def Memory.bytesFrom (m : Memory) (addr : Word) : Nat → List Byte
  | 0 => []
  | n + 1 => m.read addr :: m.bytesFrom (addr + 1) n

/-- Writes bytes at `addr`, `addr + 1`, ..., addresses modulo 65,536 (R45 `load`). -/
def Memory.writeBytes (m : Memory) (addr : Word) : List Byte → Memory
  | [] => m
  | b :: bs => (m.write addr b).writeBytes (addr + 1) bs

/-! ### Registers and flags: the one way in which each is written -/

/-- `A <- v`. -/
def State.setA (s : State) (v : Byte) : State := { s with a := v }

/-- `X <- v`. -/
def State.setX (s : State) (v : Byte) : State := { s with x := v }

/-- `Y <- v`. -/
def State.setY (s : State) (v : Byte) : State := { s with y := v }

/-- `SP <- v`. -/
def State.setSP (s : State) (v : Byte) : State := { s with sp := v }

/-- `PC <- w`. -/
def State.setPC (s : State) (w : Word) : State := { s with pc := w }

/-- `P <- v`. -/
def State.setP (s : State) (v : Byte) : State := { s with p := v }

/-- `P.f`. -/
def State.flag (s : State) (f : Flag) : Bool := getFlag s.p f

/-- `P.f <- b` (R28). -/
def State.setFlag (s : State) (f : Flag) (b : Bool) : State := s.setP (Sys2Proof.Machine.setFlag s.p f b)

/-- `SetNZ(r)` (R13). -/
def State.setNZ (s : State) (r : Byte) : State := s.setP (Sys2Proof.Machine.setNZ s.p r)

/-- `Mem[addr]`. -/
def State.read (s : State) (addr : Word) : Byte := s.mem.read addr

/-- `MemWrite(addr, 1, v)`. -/
def State.write (s : State) (addr : Word) (v : Byte) : State := { s with mem := s.mem.write addr v }

/-- PC past an instruction of `n` bytes, modulo 65,536 (R26, 40_engine.md R104). -/
def State.advance (s : State) (n : Nat) : State := s.setPC (s.pc + BitVec.ofNat 16 n)

/-! ### Stack (45_stack.md R160-R162) -/

/-- The address SP designates, `0x0100 + SP` (R25). -/
def stackAddr (sp : Byte) : Word := Config.stackPage + zext16 sp

/-- `Push(v)`: write at `0x0100 + SP`, then SP minus one modulo 256 (R160). -/
def State.push (s : State) (v : Byte) : State := (s.write (stackAddr s.sp) v).setSP (s.sp - 1)

/-- The byte `Pop()` returns: at `0x0100 + (SP + 1 mod 256)` (R161). -/
def State.top (s : State) : Byte := s.read (stackAddr (s.sp + 1))

/-- The state `Pop()` leaves: SP plus one modulo 256, memory unchanged (R161). -/
def State.drop (s : State) : State := s.setSP (s.sp + 1)

/-- `Push16(w)`: the high byte, then the low byte (R162). -/
def State.push16 (s : State) (w : Word) : State := (s.push (hiByte w)).push (loByte w)

/-- The Word `Pop16()` returns: the low byte popped first (R162). -/
def State.top16 (s : State) : Word := joinBytes s.drop.top s.top

/-- The state `Pop16()` leaves (R162). -/
def State.drop16 (s : State) : State := s.drop.drop

/-! ### The software interrupt (46_jump_call.md R175, R176; 60_exceptions.md R245, R247) -/

/-- Taking the exception: the return address, then `P | 0x30`, pushed; P.I set; PC from the fixed vector (R175, R245). -/
def State.enterInterrupt (s : State) (returnTo : Word) : State :=
  let s := ((s.push16 returnTo).push (pushedStatus s.p)).setFlag .i true
  s.setPC (s.mem.readWord Config.brkVector)

/-- The return: P pulled (B and U kept), then PC pulled, with no adjustment (R176, R247). -/
def State.returnFromInterrupt (s : State) : State :=
  let s := s.drop.setP (pulledStatus s.p s.top)
  s.drop16.setPC s.top16

end Sys2Proof.Machine
end

