-- ==== Sys2Proof/Machine/Operands.lean ====
section
/-! DEFINITION. The addressing-mode resolver (40_engine.md R93-R105) and operand access (R106).

The resolver's operand bytes stand in the instruction's fields, so resolving reads registers and pointer bytes only.
Every function here is applied to the state at the START of the instruction, where PC is `pc0`, and answers an
address; PC moves by `State.advance` with the operand's length (R104). An instruction resolves before it writes
(20_memory.md R61). -/

namespace Sys2Proof.Machine

/-- An indexed address: the address before indexing (`base` of R93) and the index. -/
structure Indexed where
  base : Word
  index : Byte
  deriving DecidableEq, Repr

/-- `ea = (base + zext_16(index)) mod 65536` (R98, R102). -/
def Indexed.ea (t : Indexed) : Word := t.base + zext16 t.index

/-- Absolute indexed by X (R98). -/
def State.absx (s : State) (hhll : Word) : Indexed := ⟨hhll, s.x⟩

/-- Absolute indexed by Y (R98). -/
def State.absy (s : State) (hhll : Word) : Indexed := ⟨hhll, s.y⟩

/-- Indirect-indexed `(zz),Y`: the base is the Word at the zero-page pointer (R102). -/
def State.izy (s : State) (zz : Byte) : Indexed := ⟨s.mem.readZeroPageWord zz, s.y⟩

/-- The effective address of a memory operand (R96, R97, R98, R101, R102). -/
def State.ea (s : State) : MemOperand → Word
  | .zp zz => zext16 zz
  | .zpx zz => zext16 (zz + s.x)
  | .zpy zz => zext16 (zz + s.y)
  | .abs hhll => hhll
  | .absx hhll => (s.absx hhll).ea
  | .absy hhll => (s.absy hhll).ea
  | .izx zz => s.mem.readZeroPageWord (zz + s.x)
  | .izy zz => (s.izy zz).ea

/-- The target of a relative branch: `(pc0 + 2 + sext_16(dd)) mod 65536` (R103). -/
def State.branchTarget (s : State) (dd : Byte) : Word := s.pc + 2 + sext16 dd

/-- The operand's Byte: the immediate (R95) or `Mem[ea]` (R106). -/
def State.sourceByte (s : State) : Source → Byte
  | .imm ii => ii
  | .mem m => s.read (s.ea m)

/-- `Operand()`: A for the accumulator, `Mem[ea]` otherwise (R106). -/
def State.targetByte (s : State) : Target → Byte
  | .acc => s.a
  | .mem m => s.read (s.ea m)

/-- `WriteBack(v)`: A for the accumulator, `Mem[ea]` otherwise (R106). -/
def State.writeBack (s : State) (v : Byte) : Target → State
  | .acc => s.setA v
  | .mem m => s.write (s.ea m) v

end Sys2Proof.Machine
end

