-- ==== Sys2Proof/Machine/Arithmetic.lean ====
section
/-! DEFINITION. Arithmetic and compare: ADC, SBC, CMP, CPX, CPY (41_arithmetic.md).

First the shared operations of the family, then the meaning of each opcode. -/

namespace Sys2Proof.Machine

/-- The ADC step on a Byte: C, V, A, then Z and N from the result (R120). -/
def State.addWithCarry (s : State) (m : Byte) : State :=
  let c := s.flag .c
  let r := adcResult s.a m c
  (((s.setFlag .c (adcCarry s.a m c)).setFlag .v (adcOverflow s.a m c)).setA r).setNZ r

/-- The SBC step on a Byte: C, V, A, then Z and N from the result (R121). -/
def State.subtractWithCarry (s : State) (m : Byte) : State :=
  let c := s.flag .c
  let r := sbcResult s.a m c
  (((s.setFlag .c (sbcCarry s.a m c)).setFlag .v (sbcOverflow s.a m c)).setA r).setNZ r

/-- The compare step of a register's Byte with a Byte: C, Z, N only (R122). -/
def State.compare (s : State) (reg m : Byte) : State :=
  (s.setFlag .c (cmpCarry reg m)).setNZ (cmpResult reg m)

/-- ADC (R120). -/
def opAdc (o : Source) (s : State) : Result := .next ((s.addWithCarry (s.sourceByte o)).advance o.length)

/-- SBC (R121). -/
def opSbc (o : Source) (s : State) : Result := .next ((s.subtractWithCarry (s.sourceByte o)).advance o.length)

/-- CMP (R122). -/
def opCmp (o : Source) (s : State) : Result := .next ((s.compare s.a (s.sourceByte o)).advance o.length)

/-- CPX (R123). -/
def opCpx (o : Source) (s : State) : Result := .next ((s.compare s.x (s.sourceByte o)).advance o.length)

/-- CPY (R124). -/
def opCpy (o : Source) (s : State) : Result := .next ((s.compare s.y (s.sourceByte o)).advance o.length)

/-! ### The meanings, one per opcode -/

/-- ADC #ii, opcode 0x69 (R120). -/
def execAdcImm (ii : Byte) (s : State) : Result := opAdc (.imm ii) s

/-- ADC zz, opcode 0x65 (R120). -/
def execAdcZp (zz : Byte) (s : State) : Result := opAdc (.mem (.zp zz)) s

/-- ADC zz,X, opcode 0x75 (R120). -/
def execAdcZpx (zz : Byte) (s : State) : Result := opAdc (.mem (.zpx zz)) s

/-- ADC hhll, opcode 0x6D (R120). -/
def execAdcAbs (hhll : Word) (s : State) : Result := opAdc (.mem (.abs hhll)) s

/-- ADC hhll,X, opcode 0x7D (R120). -/
def execAdcAbsx (hhll : Word) (s : State) : Result := opAdc (.mem (.absx hhll)) s

/-- ADC hhll,Y, opcode 0x79 (R120). -/
def execAdcAbsy (hhll : Word) (s : State) : Result := opAdc (.mem (.absy hhll)) s

/-- ADC (zz,X), opcode 0x61 (R120). -/
def execAdcIzx (zz : Byte) (s : State) : Result := opAdc (.mem (.izx zz)) s

/-- ADC (zz),Y, opcode 0x71 (R120). -/
def execAdcIzy (zz : Byte) (s : State) : Result := opAdc (.mem (.izy zz)) s

/-- SBC #ii, opcode 0xE9 (R121). -/
def execSbcImm (ii : Byte) (s : State) : Result := opSbc (.imm ii) s

/-- SBC zz, opcode 0xE5 (R121). -/
def execSbcZp (zz : Byte) (s : State) : Result := opSbc (.mem (.zp zz)) s

/-- SBC zz,X, opcode 0xF5 (R121). -/
def execSbcZpx (zz : Byte) (s : State) : Result := opSbc (.mem (.zpx zz)) s

/-- SBC hhll, opcode 0xED (R121). -/
def execSbcAbs (hhll : Word) (s : State) : Result := opSbc (.mem (.abs hhll)) s

/-- SBC hhll,X, opcode 0xFD (R121). -/
def execSbcAbsx (hhll : Word) (s : State) : Result := opSbc (.mem (.absx hhll)) s

/-- SBC hhll,Y, opcode 0xF9 (R121). -/
def execSbcAbsy (hhll : Word) (s : State) : Result := opSbc (.mem (.absy hhll)) s

/-- SBC (zz,X), opcode 0xE1 (R121). -/
def execSbcIzx (zz : Byte) (s : State) : Result := opSbc (.mem (.izx zz)) s

/-- SBC (zz),Y, opcode 0xF1 (R121). -/
def execSbcIzy (zz : Byte) (s : State) : Result := opSbc (.mem (.izy zz)) s

/-- CMP #ii, opcode 0xC9 (R122). -/
def execCmpImm (ii : Byte) (s : State) : Result := opCmp (.imm ii) s

/-- CMP zz, opcode 0xC5 (R122). -/
def execCmpZp (zz : Byte) (s : State) : Result := opCmp (.mem (.zp zz)) s

/-- CMP zz,X, opcode 0xD5 (R122). -/
def execCmpZpx (zz : Byte) (s : State) : Result := opCmp (.mem (.zpx zz)) s

/-- CMP hhll, opcode 0xCD (R122). -/
def execCmpAbs (hhll : Word) (s : State) : Result := opCmp (.mem (.abs hhll)) s

/-- CMP hhll,X, opcode 0xDD (R122). -/
def execCmpAbsx (hhll : Word) (s : State) : Result := opCmp (.mem (.absx hhll)) s

/-- CMP hhll,Y, opcode 0xD9 (R122). -/
def execCmpAbsy (hhll : Word) (s : State) : Result := opCmp (.mem (.absy hhll)) s

/-- CMP (zz,X), opcode 0xC1 (R122). -/
def execCmpIzx (zz : Byte) (s : State) : Result := opCmp (.mem (.izx zz)) s

/-- CMP (zz),Y, opcode 0xD1 (R122). -/
def execCmpIzy (zz : Byte) (s : State) : Result := opCmp (.mem (.izy zz)) s

/-- CPX #ii, opcode 0xE0 (R123). -/
def execCpxImm (ii : Byte) (s : State) : Result := opCpx (.imm ii) s

/-- CPX zz, opcode 0xE4 (R123). -/
def execCpxZp (zz : Byte) (s : State) : Result := opCpx (.mem (.zp zz)) s

/-- CPX hhll, opcode 0xEC (R123). -/
def execCpxAbs (hhll : Word) (s : State) : Result := opCpx (.mem (.abs hhll)) s

/-- CPY #ii, opcode 0xC0 (R124). -/
def execCpyImm (ii : Byte) (s : State) : Result := opCpy (.imm ii) s

/-- CPY zz, opcode 0xC4 (R124). -/
def execCpyZp (zz : Byte) (s : State) : Result := opCpy (.mem (.zp zz)) s

/-- CPY hhll, opcode 0xCC (R124). -/
def execCpyAbs (hhll : Word) (s : State) : Result := opCpy (.mem (.abs hhll)) s

end Sys2Proof.Machine
end

