-- ==== Sys2Proof/Machine/Branches.lean ====
section
/-! DEFINITION. Conditional branches (44_branches.md R150): two bytes, taken to the relative target when the condition holds.

First the shared operations of the family, then the meaning of each opcode. -/

namespace Sys2Proof.Machine

/-- The common branch (R150): the target when the condition holds, else past the two bytes; nothing else changes. -/
def opBranch (cond : Bool) (dd : Byte) (s : State) : Result :=
  .next (if cond then s.setPC (s.branchTarget dd) else s.advance 2)

/-! ### The meanings, one per opcode -/

/-- BCC dd, opcode 0x90 (R151). -/
def execBcc (dd : Byte) (s : State) : Result := opBranch (!s.flag .c) dd s

/-- BCS dd, opcode 0xB0 (R152). -/
def execBcs (dd : Byte) (s : State) : Result := opBranch (s.flag .c) dd s

/-- BEQ dd, opcode 0xF0 (R153). -/
def execBeq (dd : Byte) (s : State) : Result := opBranch (s.flag .z) dd s

/-- BNE dd, opcode 0xD0 (R154). -/
def execBne (dd : Byte) (s : State) : Result := opBranch (!s.flag .z) dd s

/-- BMI dd, opcode 0x30 (R155). -/
def execBmi (dd : Byte) (s : State) : Result := opBranch (s.flag .n) dd s

/-- BPL dd, opcode 0x10 (R156). -/
def execBpl (dd : Byte) (s : State) : Result := opBranch (!s.flag .n) dd s

/-- BVC dd, opcode 0x50 (R157). -/
def execBvc (dd : Byte) (s : State) : Result := opBranch (!s.flag .v) dd s

/-- BVS dd, opcode 0x70 (R158). -/
def execBvs (dd : Byte) (s : State) : Result := opBranch (s.flag .v) dd s

end Sys2Proof.Machine
end

