-- ==== Sys2Proof/Machine/IncDec.lean ====
section
/-! DEFINITION. Increment and decrement: INC, DEC, INX, INY, DEX, DEY (43_inc_dec.md); no effect on C or V.

First the shared operations of the family, then the meaning of each opcode. -/

namespace Sys2Proof.Machine

/-- INC (R140). -/
def opInc (m : MemOperand) (s : State) : Result :=
  let r := s.read (s.ea m) + 1
  .next (((s.write (s.ea m) r).setNZ r).advance m.length)

/-- DEC (R141). -/
def opDec (m : MemOperand) (s : State) : Result :=
  let r := s.read (s.ea m) - 1
  .next (((s.write (s.ea m) r).setNZ r).advance m.length)

/-- Gives X a value with its Z and N, for an instruction of one byte (R142, R144, R167, R186). -/
def opWriteX (v : Byte) (s : State) : Result := .next (((s.setX v).setNZ v).advance 1)

/-- Gives Y a value with its Z and N, for an instruction of one byte (R143, R145, R187). -/
def opWriteY (v : Byte) (s : State) : Result := .next (((s.setY v).setNZ v).advance 1)

/-! ### The meanings, one per opcode -/

/-- INC zz, opcode 0xE6 (R140). -/
def execIncZp (zz : Byte) (s : State) : Result := opInc (.zp zz) s

/-- INC zz,X, opcode 0xF6 (R140). -/
def execIncZpx (zz : Byte) (s : State) : Result := opInc (.zpx zz) s

/-- INC hhll, opcode 0xEE (R140). -/
def execIncAbs (hhll : Word) (s : State) : Result := opInc (.abs hhll) s

/-- INC hhll,X, opcode 0xFE (R140). -/
def execIncAbsx (hhll : Word) (s : State) : Result := opInc (.absx hhll) s

/-- DEC zz, opcode 0xC6 (R141). -/
def execDecZp (zz : Byte) (s : State) : Result := opDec (.zp zz) s

/-- DEC zz,X, opcode 0xD6 (R141). -/
def execDecZpx (zz : Byte) (s : State) : Result := opDec (.zpx zz) s

/-- DEC hhll, opcode 0xCE (R141). -/
def execDecAbs (hhll : Word) (s : State) : Result := opDec (.abs hhll) s

/-- DEC hhll,X, opcode 0xDE (R141). -/
def execDecAbsx (hhll : Word) (s : State) : Result := opDec (.absx hhll) s

/-- INX, opcode 0xE8 (R142). -/
def execInx (s : State) : Result := opWriteX (s.x + 1) s

/-- INY, opcode 0xC8 (R143). -/
def execIny (s : State) : Result := opWriteY (s.y + 1) s

/-- DEX, opcode 0xCA (R144). -/
def execDex (s : State) : Result := opWriteX (s.x - 1) s

/-- DEY, opcode 0x88 (R145). -/
def execDey (s : State) : Result := opWriteY (s.y - 1) s

end Sys2Proof.Machine
end

