-- ==== Sys2Proof/Machine/JumpCall.lean ====
section
/-! DEFINITION. Jumps, calls, returns and the software interrupt: JMP, JSR, RTS, BRK, RTI (46_jump_call.md).

First the shared operations of the family, then the meaning of each opcode. -/

namespace Sys2Proof.Machine

/-- JMP to an address (R170, R171). -/
def opJmp (target : Word) (s : State) : Result := .next (s.setPC target)

/-- JSR: pushes the address of its last byte, `pc0 + 2`, and jumps (R172). The target is the instruction's operand,
fetched before the pushes (20_memory.md R61, 92 D20). -/
def opJsr (target : Word) (s : State) : Result := .next ((s.push16 (s.pc + 2)).setPC target)

/-- RTS: the popped Word plus one (R173). -/
def opRts (s : State) : Result := .next (s.drop16.setPC (s.top16 + 1))

/-- BRK: enters the handler with `pc0 + 2` as the return address; the signature byte is ignored (R175). -/
def opBrk (s : State) : Result := .next (s.enterInterrupt (s.pc + 2))

/-- RTI (R176). -/
def opRti (s : State) : Result := .next s.returnFromInterrupt

/-! ### The meanings, one per opcode -/

/-- JMP hhll, opcode 0x4C (R170). -/
def execJmpAbs (hhll : Word) (s : State) : Result := opJmp hhll s

/-- JMP (hhll), opcode 0x6C (R171). -/
def execJmpInd (hhll : Word) (s : State) : Result := opJmp (s.mem.readPageWord hhll) s

/-- JSR hhll, opcode 0x20 (R172). -/
def execJsrAbs (hhll : Word) (s : State) : Result := opJsr hhll s

/-- RTS, opcode 0x60 (R173). -/
def execRts (s : State) : Result := opRts s

/-- BRK, opcode 0x00 (R175). -/
def execBrk (_ss : Byte) (s : State) : Result := opBrk s

/-- RTI, opcode 0x40 (R176). -/
def execRti (s : State) : Result := opRti s

end Sys2Proof.Machine
end

