-- ==== Sys2Proof/Machine/LoadStore.lean ====
section
/-! DEFINITION. Loads, stores and register transfers (47_load_store_transfer.md).

First the shared operations of the family, then the meaning of each opcode. -/

namespace Sys2Proof.Machine

/-- LDA (R180). -/
def opLda (o : Source) (s : State) : Result :=
  let v := s.sourceByte o
  .next (((s.setA v).setNZ v).advance o.length)

/-- LDX (R181). -/
def opLdx (o : Source) (s : State) : Result :=
  let v := s.sourceByte o
  .next (((s.setX v).setNZ v).advance o.length)

/-- LDY (R182). -/
def opLdy (o : Source) (s : State) : Result :=
  let v := s.sourceByte o
  .next (((s.setY v).setNZ v).advance o.length)

/-- Stores a Byte at the effective address; no flag, no read (R183-R185, R215). -/
def opStore (v : Byte) (m : MemOperand) (s : State) : Result := .next ((s.write (s.ea m) v).advance m.length)

/-- Gives A a value with its Z and N, for an instruction of one byte (R188, R189). -/
def opWriteA (v : Byte) (s : State) : Result := .next (((s.setA v).setNZ v).advance 1)

/-! ### The meanings, one per opcode -/

/-- LDA #ii, opcode 0xA9 (R180). -/
def execLdaImm (ii : Byte) (s : State) : Result := opLda (.imm ii) s

/-- LDA zz, opcode 0xA5 (R180). -/
def execLdaZp (zz : Byte) (s : State) : Result := opLda (.mem (.zp zz)) s

/-- LDA zz,X, opcode 0xB5 (R180). -/
def execLdaZpx (zz : Byte) (s : State) : Result := opLda (.mem (.zpx zz)) s

/-- LDA hhll, opcode 0xAD (R180). -/
def execLdaAbs (hhll : Word) (s : State) : Result := opLda (.mem (.abs hhll)) s

/-- LDA hhll,X, opcode 0xBD (R180). -/
def execLdaAbsx (hhll : Word) (s : State) : Result := opLda (.mem (.absx hhll)) s

/-- LDA hhll,Y, opcode 0xB9 (R180). -/
def execLdaAbsy (hhll : Word) (s : State) : Result := opLda (.mem (.absy hhll)) s

/-- LDA (zz,X), opcode 0xA1 (R180). -/
def execLdaIzx (zz : Byte) (s : State) : Result := opLda (.mem (.izx zz)) s

/-- LDA (zz),Y, opcode 0xB1 (R180). -/
def execLdaIzy (zz : Byte) (s : State) : Result := opLda (.mem (.izy zz)) s

/-- LDX #ii, opcode 0xA2 (R181). -/
def execLdxImm (ii : Byte) (s : State) : Result := opLdx (.imm ii) s

/-- LDX zz, opcode 0xA6 (R181). -/
def execLdxZp (zz : Byte) (s : State) : Result := opLdx (.mem (.zp zz)) s

/-- LDX zz,Y, opcode 0xB6 (R181). -/
def execLdxZpy (zz : Byte) (s : State) : Result := opLdx (.mem (.zpy zz)) s

/-- LDX hhll, opcode 0xAE (R181). -/
def execLdxAbs (hhll : Word) (s : State) : Result := opLdx (.mem (.abs hhll)) s

/-- LDX hhll,Y, opcode 0xBE (R181). -/
def execLdxAbsy (hhll : Word) (s : State) : Result := opLdx (.mem (.absy hhll)) s

/-- LDY #ii, opcode 0xA0 (R182). -/
def execLdyImm (ii : Byte) (s : State) : Result := opLdy (.imm ii) s

/-- LDY zz, opcode 0xA4 (R182). -/
def execLdyZp (zz : Byte) (s : State) : Result := opLdy (.mem (.zp zz)) s

/-- LDY zz,X, opcode 0xB4 (R182). -/
def execLdyZpx (zz : Byte) (s : State) : Result := opLdy (.mem (.zpx zz)) s

/-- LDY hhll, opcode 0xAC (R182). -/
def execLdyAbs (hhll : Word) (s : State) : Result := opLdy (.mem (.abs hhll)) s

/-- LDY hhll,X, opcode 0xBC (R182). -/
def execLdyAbsx (hhll : Word) (s : State) : Result := opLdy (.mem (.absx hhll)) s

/-- STA zz, opcode 0x85 (R183). -/
def execStaZp (zz : Byte) (s : State) : Result := opStore s.a (.zp zz) s

/-- STA zz,X, opcode 0x95 (R183). -/
def execStaZpx (zz : Byte) (s : State) : Result := opStore s.a (.zpx zz) s

/-- STA hhll, opcode 0x8D (R183). -/
def execStaAbs (hhll : Word) (s : State) : Result := opStore s.a (.abs hhll) s

/-- STA hhll,X, opcode 0x9D (R183). -/
def execStaAbsx (hhll : Word) (s : State) : Result := opStore s.a (.absx hhll) s

/-- STA hhll,Y, opcode 0x99 (R183). -/
def execStaAbsy (hhll : Word) (s : State) : Result := opStore s.a (.absy hhll) s

/-- STA (zz,X), opcode 0x81 (R183). -/
def execStaIzx (zz : Byte) (s : State) : Result := opStore s.a (.izx zz) s

/-- STA (zz),Y, opcode 0x91 (R183). -/
def execStaIzy (zz : Byte) (s : State) : Result := opStore s.a (.izy zz) s

/-- STX zz, opcode 0x86 (R184). -/
def execStxZp (zz : Byte) (s : State) : Result := opStore s.x (.zp zz) s

/-- STX zz,Y, opcode 0x96 (R184). -/
def execStxZpy (zz : Byte) (s : State) : Result := opStore s.x (.zpy zz) s

/-- STX hhll, opcode 0x8E (R184). -/
def execStxAbs (hhll : Word) (s : State) : Result := opStore s.x (.abs hhll) s

/-- STY zz, opcode 0x84 (R185). -/
def execStyZp (zz : Byte) (s : State) : Result := opStore s.y (.zp zz) s

/-- STY zz,X, opcode 0x94 (R185). -/
def execStyZpx (zz : Byte) (s : State) : Result := opStore s.y (.zpx zz) s

/-- STY hhll, opcode 0x8C (R185). -/
def execStyAbs (hhll : Word) (s : State) : Result := opStore s.y (.abs hhll) s

/-- TAX, opcode 0xAA (R186). -/
def execTax (s : State) : Result := opWriteX s.a s

/-- TAY, opcode 0xA8 (R187). -/
def execTay (s : State) : Result := opWriteY s.a s

/-- TXA, opcode 0x8A (R188). -/
def execTxa (s : State) : Result := opWriteA s.x s

/-- TYA, opcode 0x98 (R189). -/
def execTya (s : State) : Result := opWriteA s.y s

end Sys2Proof.Machine
end

