-- ==== Sys2Proof/Machine/Logic.lean ====
section
/-! DEFINITION. Logic, bit test, flag instructions and NOP (48_logic_flags_nop.md).

First the shared operations of the family, then the meaning of each opcode. -/

namespace Sys2Proof.Machine

/-- AND (R190). -/
def opAnd (o : Source) (s : State) : Result :=
  let r := s.a &&& s.sourceByte o
  .next (((s.setA r).setNZ r).advance o.length)

/-- ORA (R191). -/
def opOra (o : Source) (s : State) : Result :=
  let r := s.a ||| s.sourceByte o
  .next (((s.setA r).setNZ r).advance o.length)

/-- EOR (R192). -/
def opEor (o : Source) (s : State) : Result :=
  let r := s.a ^^^ s.sourceByte o
  .next (((s.setA r).setNZ r).advance o.length)

/-- BIT: Z from `A & m`, N and V from the operand's bits 7 and 6; A is not written (R193). -/
def opBit (m : MemOperand) (s : State) : Result :=
  let v := s.read (s.ea m)
  .next ((((s.setFlag .z ((s.a &&& v) == 0)).setFlag .n (v.getLsbD 7)).setFlag .v (v.getLsbD 6)).advance m.length)

/-- Sets or clears one flag, for an instruction of one byte (R194-R200). -/
def opFlag (f : Flag) (b : Bool) (s : State) : Result := .next ((s.setFlag f b).advance 1)

/-- No operation: PC past the format's bytes (R201, R232). -/
def opNop (fmt : Format) (s : State) : Result := .next (s.advance fmt.length)

/-! ### The meanings, one per opcode -/

/-- AND #ii, opcode 0x29 (R190). -/
def execAndImm (ii : Byte) (s : State) : Result := opAnd (.imm ii) s

/-- AND zz, opcode 0x25 (R190). -/
def execAndZp (zz : Byte) (s : State) : Result := opAnd (.mem (.zp zz)) s

/-- AND zz,X, opcode 0x35 (R190). -/
def execAndZpx (zz : Byte) (s : State) : Result := opAnd (.mem (.zpx zz)) s

/-- AND hhll, opcode 0x2D (R190). -/
def execAndAbs (hhll : Word) (s : State) : Result := opAnd (.mem (.abs hhll)) s

/-- AND hhll,X, opcode 0x3D (R190). -/
def execAndAbsx (hhll : Word) (s : State) : Result := opAnd (.mem (.absx hhll)) s

/-- AND hhll,Y, opcode 0x39 (R190). -/
def execAndAbsy (hhll : Word) (s : State) : Result := opAnd (.mem (.absy hhll)) s

/-- AND (zz,X), opcode 0x21 (R190). -/
def execAndIzx (zz : Byte) (s : State) : Result := opAnd (.mem (.izx zz)) s

/-- AND (zz),Y, opcode 0x31 (R190). -/
def execAndIzy (zz : Byte) (s : State) : Result := opAnd (.mem (.izy zz)) s

/-- ORA #ii, opcode 0x09 (R191). -/
def execOraImm (ii : Byte) (s : State) : Result := opOra (.imm ii) s

/-- ORA zz, opcode 0x05 (R191). -/
def execOraZp (zz : Byte) (s : State) : Result := opOra (.mem (.zp zz)) s

/-- ORA zz,X, opcode 0x15 (R191). -/
def execOraZpx (zz : Byte) (s : State) : Result := opOra (.mem (.zpx zz)) s

/-- ORA hhll, opcode 0x0D (R191). -/
def execOraAbs (hhll : Word) (s : State) : Result := opOra (.mem (.abs hhll)) s

/-- ORA hhll,X, opcode 0x1D (R191). -/
def execOraAbsx (hhll : Word) (s : State) : Result := opOra (.mem (.absx hhll)) s

/-- ORA hhll,Y, opcode 0x19 (R191). -/
def execOraAbsy (hhll : Word) (s : State) : Result := opOra (.mem (.absy hhll)) s

/-- ORA (zz,X), opcode 0x01 (R191). -/
def execOraIzx (zz : Byte) (s : State) : Result := opOra (.mem (.izx zz)) s

/-- ORA (zz),Y, opcode 0x11 (R191). -/
def execOraIzy (zz : Byte) (s : State) : Result := opOra (.mem (.izy zz)) s

/-- EOR #ii, opcode 0x49 (R192). -/
def execEorImm (ii : Byte) (s : State) : Result := opEor (.imm ii) s

/-- EOR zz, opcode 0x45 (R192). -/
def execEorZp (zz : Byte) (s : State) : Result := opEor (.mem (.zp zz)) s

/-- EOR zz,X, opcode 0x55 (R192). -/
def execEorZpx (zz : Byte) (s : State) : Result := opEor (.mem (.zpx zz)) s

/-- EOR hhll, opcode 0x4D (R192). -/
def execEorAbs (hhll : Word) (s : State) : Result := opEor (.mem (.abs hhll)) s

/-- EOR hhll,X, opcode 0x5D (R192). -/
def execEorAbsx (hhll : Word) (s : State) : Result := opEor (.mem (.absx hhll)) s

/-- EOR hhll,Y, opcode 0x59 (R192). -/
def execEorAbsy (hhll : Word) (s : State) : Result := opEor (.mem (.absy hhll)) s

/-- EOR (zz,X), opcode 0x41 (R192). -/
def execEorIzx (zz : Byte) (s : State) : Result := opEor (.mem (.izx zz)) s

/-- EOR (zz),Y, opcode 0x51 (R192). -/
def execEorIzy (zz : Byte) (s : State) : Result := opEor (.mem (.izy zz)) s

/-- BIT zz, opcode 0x24 (R193). -/
def execBitZp (zz : Byte) (s : State) : Result := opBit (.zp zz) s

/-- BIT hhll, opcode 0x2C (R193). -/
def execBitAbs (hhll : Word) (s : State) : Result := opBit (.abs hhll) s

/-- CLC, opcode 0x18 (R194). -/
def execClc (s : State) : Result := opFlag .c false s

/-- SEC, opcode 0x38 (R195). -/
def execSec (s : State) : Result := opFlag .c true s

/-- CLI, opcode 0x58 (R196). -/
def execCli (s : State) : Result := opFlag .i false s

/-- SEI, opcode 0x78 (R197). -/
def execSei (s : State) : Result := opFlag .i true s

/-- CLD, opcode 0xD8 (R198). -/
def execCld (s : State) : Result := opFlag .d false s

/-- SED, opcode 0xF8 (R199). -/
def execSed (s : State) : Result := opFlag .d true s

/-- CLV, opcode 0xB8 (R200). -/
def execClv (s : State) : Result := opFlag .v false s

/-- NOP, opcode 0xEA (R201). -/
def execNop (s : State) : Result := opNop .imp s

end Sys2Proof.Machine
end

