-- ==== Sys2Proof/Machine/ShiftRotate.lean ====
section
/-! DEFINITION. Shift and rotate: ASL, LSR, ROL, ROR on the accumulator or memory (42_shift_rotate.md).

First the shared operations of the family, then the meaning of each opcode. -/

namespace Sys2Proof.Machine

/-- ASL (R130). -/
def opAsl (o : Target) (s : State) : Result :=
  let v := s.targetByte o
  .next ((((s.writeBack (aslResult v) o).setFlag .c (leftOut v)).setNZ (aslResult v)).advance o.length)

/-- LSR (R131). -/
def opLsr (o : Target) (s : State) : Result :=
  let v := s.targetByte o
  .next ((((s.writeBack (lsrResult v) o).setFlag .c (rightOut v)).setNZ (lsrResult v)).advance o.length)

/-- ROL: the old carry enters bit 0 (R132). -/
def opRol (o : Target) (s : State) : Result :=
  let v := s.targetByte o
  let r := rolResult v (s.flag .c)
  .next ((((s.writeBack r o).setFlag .c (leftOut v)).setNZ r).advance o.length)

/-- ROR: the old carry enters bit 7 (R133). -/
def opRor (o : Target) (s : State) : Result :=
  let v := s.targetByte o
  let r := rorResult v (s.flag .c)
  .next ((((s.writeBack r o).setFlag .c (rightOut v)).setNZ r).advance o.length)

/-! ### The meanings, one per opcode -/

/-- ASL A, opcode 0x0A (R130). -/
def execAslAcc (s : State) : Result := opAsl .acc s

/-- ASL zz, opcode 0x06 (R130). -/
def execAslZp (zz : Byte) (s : State) : Result := opAsl (.mem (.zp zz)) s

/-- ASL zz,X, opcode 0x16 (R130). -/
def execAslZpx (zz : Byte) (s : State) : Result := opAsl (.mem (.zpx zz)) s

/-- ASL hhll, opcode 0x0E (R130). -/
def execAslAbs (hhll : Word) (s : State) : Result := opAsl (.mem (.abs hhll)) s

/-- ASL hhll,X, opcode 0x1E (R130). -/
def execAslAbsx (hhll : Word) (s : State) : Result := opAsl (.mem (.absx hhll)) s

/-- LSR A, opcode 0x4A (R131). -/
def execLsrAcc (s : State) : Result := opLsr .acc s

/-- LSR zz, opcode 0x46 (R131). -/
def execLsrZp (zz : Byte) (s : State) : Result := opLsr (.mem (.zp zz)) s

/-- LSR zz,X, opcode 0x56 (R131). -/
def execLsrZpx (zz : Byte) (s : State) : Result := opLsr (.mem (.zpx zz)) s

/-- LSR hhll, opcode 0x4E (R131). -/
def execLsrAbs (hhll : Word) (s : State) : Result := opLsr (.mem (.abs hhll)) s

/-- LSR hhll,X, opcode 0x5E (R131). -/
def execLsrAbsx (hhll : Word) (s : State) : Result := opLsr (.mem (.absx hhll)) s

/-- ROL A, opcode 0x2A (R132). -/
def execRolAcc (s : State) : Result := opRol .acc s

/-- ROL zz, opcode 0x26 (R132). -/
def execRolZp (zz : Byte) (s : State) : Result := opRol (.mem (.zp zz)) s

/-- ROL zz,X, opcode 0x36 (R132). -/
def execRolZpx (zz : Byte) (s : State) : Result := opRol (.mem (.zpx zz)) s

/-- ROL hhll, opcode 0x2E (R132). -/
def execRolAbs (hhll : Word) (s : State) : Result := opRol (.mem (.abs hhll)) s

/-- ROL hhll,X, opcode 0x3E (R132). -/
def execRolAbsx (hhll : Word) (s : State) : Result := opRol (.mem (.absx hhll)) s

/-- ROR A, opcode 0x6A (R133). -/
def execRorAcc (s : State) : Result := opRor .acc s

/-- ROR zz, opcode 0x66 (R133). -/
def execRorZp (zz : Byte) (s : State) : Result := opRor (.mem (.zp zz)) s

/-- ROR zz,X, opcode 0x76 (R133). -/
def execRorZpx (zz : Byte) (s : State) : Result := opRor (.mem (.zpx zz)) s

/-- ROR hhll, opcode 0x6E (R133). -/
def execRorAbs (hhll : Word) (s : State) : Result := opRor (.mem (.abs hhll)) s

/-- ROR hhll,X, opcode 0x7E (R133). -/
def execRorAbsx (hhll : Word) (s : State) : Result := opRor (.mem (.absx hhll)) s

end Sys2Proof.Machine
end

