-- ==== Sys2Proof/Machine/Stack.lean ====
section
/-! DEFINITION. Stack instructions: PHA, PHP, PLA, PLP, TSX, TXS (45_stack.md), one byte each.

First the shared operations of the family, then the meaning of each opcode. -/

namespace Sys2Proof.Machine

/-- Pushes a Byte, for an instruction of one byte (R163, R164). -/
def opPush (v : Byte) (s : State) : Result := .next ((s.push v).advance 1)

/-- PLA (R165). -/
def opPla (s : State) : Result := .next (((s.drop.setA s.top).setNZ s.top).advance 1)

/-- PLP (R166). -/
def opPlp (s : State) : Result := .next ((s.drop.setP (pulledStatus s.p s.top)).advance 1)

/-! ### The meanings, one per opcode -/

/-- PHA, opcode 0x48 (R163). -/
def execPha (s : State) : Result := opPush s.a s

/-- PHP, opcode 0x08 (R164). -/
def execPhp (s : State) : Result := opPush (pushedStatus s.p) s

/-- PLA, opcode 0x68 (R165). -/
def execPla (s : State) : Result := opPla s

/-- PLP, opcode 0x28 (R166). -/
def execPlp (s : State) : Result := opPlp s

/-- TSX, opcode 0xBA (R167). -/
def execTsx (s : State) : Result := opWriteX s.sp s

/-- TXS, opcode 0x9A (R168). -/
def execTxs (s : State) : Result := .next ((s.setSP s.x).advance 1)

end Sys2Proof.Machine
end

