-- ==== Sys2Proof/Machine/Undocumented.lean ====
section
/-! DEFINITION. The undocumented opcodes (49_undocumented.md), composed of the documented operations (R210).

First the shared operations of the family, then the meaning of each opcode. -/

namespace Sys2Proof.Machine

/-- SLO: ASL on memory, then ORA with the result (R211). -/
def opSlo (m : MemOperand) (s : State) : Result :=
  let v := s.read (s.ea m)
  let r := aslResult v
  let a := s.a ||| r
  .next (((((s.write (s.ea m) r).setFlag .c (leftOut v)).setA a).setNZ a).advance m.length)

/-- RLA: ROL on memory, then AND with the result (R212). -/
def opRla (m : MemOperand) (s : State) : Result :=
  let v := s.read (s.ea m)
  let r := rolResult v (s.flag .c)
  let a := s.a &&& r
  .next (((((s.write (s.ea m) r).setFlag .c (leftOut v)).setA a).setNZ a).advance m.length)

/-- SRE: LSR on memory, then EOR with the result (R213). -/
def opSre (m : MemOperand) (s : State) : Result :=
  let v := s.read (s.ea m)
  let r := lsrResult v
  let a := s.a ^^^ r
  .next (((((s.write (s.ea m) r).setFlag .c (rightOut v)).setA a).setNZ a).advance m.length)

/-- RRA: ROR on memory, then ADC of the result with the carry the rotate left (R214). -/
def opRra (m : MemOperand) (s : State) : Result :=
  let v := s.read (s.ea m)
  let r := rorResult v (s.flag .c)
  .next ((((s.write (s.ea m) r).setFlag .c (rightOut v)).addWithCarry r).advance m.length)

/-- DCP: DEC on memory, then CMP with the result (R217). -/
def opDcp (m : MemOperand) (s : State) : Result :=
  let r := s.read (s.ea m) - 1
  .next (((s.write (s.ea m) r).compare s.a r).advance m.length)

/-- ISC: INC on memory, then SBC of the result (R218). -/
def opIsc (m : MemOperand) (s : State) : Result :=
  let r := s.read (s.ea m) + 1
  .next (((s.write (s.ea m) r).subtractWithCarry r).advance m.length)

/-- LAX: A and X from memory (R216). -/
def opLax (m : MemOperand) (s : State) : Result :=
  let v := s.read (s.ea m)
  .next ((((s.setA v).setX v).setNZ v).advance m.length)

/-- ANC: AND, then N copied into C (R219). -/
def opAnc (ii : Byte) (s : State) : Result :=
  let r := s.a &&& ii
  .next ((((s.setA r).setNZ r).setFlag .c (r.getLsbD 7)).advance 2)

/-- ALR: AND, then LSR on A (R220). -/
def opAlr (ii : Byte) (s : State) : Result :=
  let t := s.a &&& ii
  .next ((((s.setFlag .c (rightOut t)).setA (lsrResult t)).setNZ (lsrResult t)).advance 2)

/-- ARR: AND, then ROR on A, with C and V from bits 6 and 5 of the result (R221). -/
def opArr (ii : Byte) (s : State) : Result :=
  let r := rorResult (s.a &&& ii) (s.flag .c)
  .next (((((s.setA r).setNZ r).setFlag .c (arrCarry r)).setFlag .v (arrOverflow r)).advance 2)

/-- XAA: `A <- (A | XAA_MAGIC) & X & imm` (R222). -/
def opXaa (ii : Byte) (s : State) : Result :=
  let r := (s.a ||| Config.xaaMagic) &&& s.x &&& ii
  .next (((s.setA r).setNZ r).advance 2)

/-- LXA: `A, X <- (A | LXA_MAGIC) & imm` (R223). -/
def opLxa (ii : Byte) (s : State) : Result :=
  let r := (s.a ||| Config.lxaMagic) &&& ii
  .next ((((s.setA r).setX r).setNZ r).advance 2)

/-- SBX: X from `(A & X) - imm`, flags as a compare (R224). -/
def opSbx (ii : Byte) (s : State) : Result :=
  let t := s.a &&& s.x
  .next (((s.compare t ii).setX (cmpResult t ii)).advance 2)

/-- LAS: A, X and SP from `Mem[ea] & SP` (R226). -/
def opLas (m : MemOperand) (s : State) : Result :=
  let v := s.read (s.ea m) &&& s.sp
  .next (((((s.setA v).setX v).setSP v).setNZ v).advance m.length)

/-- The Byte a high-byte store writes: `val & ((H + 1) mod 256)`, H the high byte of the base (R227). -/
def highStoreByte (t : Indexed) (val : Byte) : Byte := val &&& (hiByte t.base + 1)

/-- The address a high-byte store writes: `ea`, or, where indexing crossed a page, `ea` with the written Byte as its
high byte (R227, 92 D16). -/
def highStoreAddr (t : Indexed) (val : Byte) : Word :=
  if hiByte t.base ≠ hiByte t.ea then joinBytes (highStoreByte t val) (loByte t.ea) else t.ea

/-- The common store of SHA, SHX, SHY and TAS (R227). -/
def State.highByteStore (s : State) (t : Indexed) (val : Byte) : State :=
  s.write (highStoreAddr t val) (highStoreByte t val)

/-- SHA, SHX, SHY: the high-byte store of a value (R228-R230). -/
def opHighStore (t : Indexed) (val : Byte) (fmt : Format) (s : State) : Result :=
  .next ((s.highByteStore t val).advance fmt.length)

/-- TAS: SP from `A & X`, then the high-byte store of SP (R231). -/
def opTas (t : Indexed) (s : State) : Result :=
  let v := s.a &&& s.x
  .next (((s.setSP v).highByteStore t v).advance Format.absy.length)

/-- JAM: the step returns Stopped and nothing changes (R233). -/
def opJam (_s : State) : Result := .fault .stopped

/-! ### The meanings, one per opcode -/

/-- SLO zz, opcode 0x07 (R211). -/
def execSloZp (zz : Byte) (s : State) : Result := opSlo (.zp zz) s

/-- SLO zz,X, opcode 0x17 (R211). -/
def execSloZpx (zz : Byte) (s : State) : Result := opSlo (.zpx zz) s

/-- SLO hhll, opcode 0x0F (R211). -/
def execSloAbs (hhll : Word) (s : State) : Result := opSlo (.abs hhll) s

/-- SLO hhll,X, opcode 0x1F (R211). -/
def execSloAbsx (hhll : Word) (s : State) : Result := opSlo (.absx hhll) s

/-- SLO hhll,Y, opcode 0x1B (R211). -/
def execSloAbsy (hhll : Word) (s : State) : Result := opSlo (.absy hhll) s

/-- SLO (zz,X), opcode 0x03 (R211). -/
def execSloIzx (zz : Byte) (s : State) : Result := opSlo (.izx zz) s

/-- SLO (zz),Y, opcode 0x13 (R211). -/
def execSloIzy (zz : Byte) (s : State) : Result := opSlo (.izy zz) s

/-- RLA zz, opcode 0x27 (R212). -/
def execRlaZp (zz : Byte) (s : State) : Result := opRla (.zp zz) s

/-- RLA zz,X, opcode 0x37 (R212). -/
def execRlaZpx (zz : Byte) (s : State) : Result := opRla (.zpx zz) s

/-- RLA hhll, opcode 0x2F (R212). -/
def execRlaAbs (hhll : Word) (s : State) : Result := opRla (.abs hhll) s

/-- RLA hhll,X, opcode 0x3F (R212). -/
def execRlaAbsx (hhll : Word) (s : State) : Result := opRla (.absx hhll) s

/-- RLA hhll,Y, opcode 0x3B (R212). -/
def execRlaAbsy (hhll : Word) (s : State) : Result := opRla (.absy hhll) s

/-- RLA (zz,X), opcode 0x23 (R212). -/
def execRlaIzx (zz : Byte) (s : State) : Result := opRla (.izx zz) s

/-- RLA (zz),Y, opcode 0x33 (R212). -/
def execRlaIzy (zz : Byte) (s : State) : Result := opRla (.izy zz) s

/-- SRE zz, opcode 0x47 (R213). -/
def execSreZp (zz : Byte) (s : State) : Result := opSre (.zp zz) s

/-- SRE zz,X, opcode 0x57 (R213). -/
def execSreZpx (zz : Byte) (s : State) : Result := opSre (.zpx zz) s

/-- SRE hhll, opcode 0x4F (R213). -/
def execSreAbs (hhll : Word) (s : State) : Result := opSre (.abs hhll) s

/-- SRE hhll,X, opcode 0x5F (R213). -/
def execSreAbsx (hhll : Word) (s : State) : Result := opSre (.absx hhll) s

/-- SRE hhll,Y, opcode 0x5B (R213). -/
def execSreAbsy (hhll : Word) (s : State) : Result := opSre (.absy hhll) s

/-- SRE (zz,X), opcode 0x43 (R213). -/
def execSreIzx (zz : Byte) (s : State) : Result := opSre (.izx zz) s

/-- SRE (zz),Y, opcode 0x53 (R213). -/
def execSreIzy (zz : Byte) (s : State) : Result := opSre (.izy zz) s

/-- RRA zz, opcode 0x67 (R214). -/
def execRraZp (zz : Byte) (s : State) : Result := opRra (.zp zz) s

/-- RRA zz,X, opcode 0x77 (R214). -/
def execRraZpx (zz : Byte) (s : State) : Result := opRra (.zpx zz) s

/-- RRA hhll, opcode 0x6F (R214). -/
def execRraAbs (hhll : Word) (s : State) : Result := opRra (.abs hhll) s

/-- RRA hhll,X, opcode 0x7F (R214). -/
def execRraAbsx (hhll : Word) (s : State) : Result := opRra (.absx hhll) s

/-- RRA hhll,Y, opcode 0x7B (R214). -/
def execRraAbsy (hhll : Word) (s : State) : Result := opRra (.absy hhll) s

/-- RRA (zz,X), opcode 0x63 (R214). -/
def execRraIzx (zz : Byte) (s : State) : Result := opRra (.izx zz) s

/-- RRA (zz),Y, opcode 0x73 (R214). -/
def execRraIzy (zz : Byte) (s : State) : Result := opRra (.izy zz) s

/-- DCP zz, opcode 0xC7 (R217). -/
def execDcpZp (zz : Byte) (s : State) : Result := opDcp (.zp zz) s

/-- DCP zz,X, opcode 0xD7 (R217). -/
def execDcpZpx (zz : Byte) (s : State) : Result := opDcp (.zpx zz) s

/-- DCP hhll, opcode 0xCF (R217). -/
def execDcpAbs (hhll : Word) (s : State) : Result := opDcp (.abs hhll) s

/-- DCP hhll,X, opcode 0xDF (R217). -/
def execDcpAbsx (hhll : Word) (s : State) : Result := opDcp (.absx hhll) s

/-- DCP hhll,Y, opcode 0xDB (R217). -/
def execDcpAbsy (hhll : Word) (s : State) : Result := opDcp (.absy hhll) s

/-- DCP (zz,X), opcode 0xC3 (R217). -/
def execDcpIzx (zz : Byte) (s : State) : Result := opDcp (.izx zz) s

/-- DCP (zz),Y, opcode 0xD3 (R217). -/
def execDcpIzy (zz : Byte) (s : State) : Result := opDcp (.izy zz) s

/-- ISC zz, opcode 0xE7 (R218). -/
def execIscZp (zz : Byte) (s : State) : Result := opIsc (.zp zz) s

/-- ISC zz,X, opcode 0xF7 (R218). -/
def execIscZpx (zz : Byte) (s : State) : Result := opIsc (.zpx zz) s

/-- ISC hhll, opcode 0xEF (R218). -/
def execIscAbs (hhll : Word) (s : State) : Result := opIsc (.abs hhll) s

/-- ISC hhll,X, opcode 0xFF (R218). -/
def execIscAbsx (hhll : Word) (s : State) : Result := opIsc (.absx hhll) s

/-- ISC hhll,Y, opcode 0xFB (R218). -/
def execIscAbsy (hhll : Word) (s : State) : Result := opIsc (.absy hhll) s

/-- ISC (zz,X), opcode 0xE3 (R218). -/
def execIscIzx (zz : Byte) (s : State) : Result := opIsc (.izx zz) s

/-- ISC (zz),Y, opcode 0xF3 (R218). -/
def execIscIzy (zz : Byte) (s : State) : Result := opIsc (.izy zz) s

/-- SAX zz, opcode 0x87 (R215). -/
def execSaxZp (zz : Byte) (s : State) : Result := opStore (s.a &&& s.x) (.zp zz) s

/-- SAX zz,Y, opcode 0x97 (R215). -/
def execSaxZpy (zz : Byte) (s : State) : Result := opStore (s.a &&& s.x) (.zpy zz) s

/-- SAX hhll, opcode 0x8F (R215). -/
def execSaxAbs (hhll : Word) (s : State) : Result := opStore (s.a &&& s.x) (.abs hhll) s

/-- SAX (zz,X), opcode 0x83 (R215). -/
def execSaxIzx (zz : Byte) (s : State) : Result := opStore (s.a &&& s.x) (.izx zz) s

/-- LAX zz, opcode 0xA7 (R216). -/
def execLaxZp (zz : Byte) (s : State) : Result := opLax (.zp zz) s

/-- LAX zz,Y, opcode 0xB7 (R216). -/
def execLaxZpy (zz : Byte) (s : State) : Result := opLax (.zpy zz) s

/-- LAX hhll, opcode 0xAF (R216). -/
def execLaxAbs (hhll : Word) (s : State) : Result := opLax (.abs hhll) s

/-- LAX hhll,Y, opcode 0xBF (R216). -/
def execLaxAbsy (hhll : Word) (s : State) : Result := opLax (.absy hhll) s

/-- LAX (zz,X), opcode 0xA3 (R216). -/
def execLaxIzx (zz : Byte) (s : State) : Result := opLax (.izx zz) s

/-- LAX (zz),Y, opcode 0xB3 (R216). -/
def execLaxIzy (zz : Byte) (s : State) : Result := opLax (.izy zz) s

/-- ANC #ii, opcode 0x0B (R219). -/
def execAncImm0B (ii : Byte) (s : State) : Result := opAnc ii s

/-- ANC #ii, opcode 0x2B (R219). -/
def execAncImm2B (ii : Byte) (s : State) : Result := opAnc ii s

/-- ALR #ii, opcode 0x4B (R220). -/
def execAlrImm (ii : Byte) (s : State) : Result := opAlr ii s

/-- ARR #ii, opcode 0x6B (R221). -/
def execArrImm (ii : Byte) (s : State) : Result := opArr ii s

/-- XAA #ii, opcode 0x8B (R222). -/
def execXaaImm (ii : Byte) (s : State) : Result := opXaa ii s

/-- LXA #ii, opcode 0xAB (R223). -/
def execLxaImm (ii : Byte) (s : State) : Result := opLxa ii s

/-- SBX #ii, opcode 0xCB (R224). -/
def execSbxImm (ii : Byte) (s : State) : Result := opSbx ii s

/-- SBC #ii, opcode 0xEB (R225). -/
def execSbcImmEB (ii : Byte) (s : State) : Result := opSbc (.imm ii) s

/-- LAS hhll,Y, opcode 0xBB (R226). -/
def execLasAbsy (hhll : Word) (s : State) : Result := opLas (.absy hhll) s

/-- SHA hhll,Y, opcode 0x9F (R228). -/
def execShaAbsy (hhll : Word) (s : State) : Result := opHighStore (s.absy hhll) (s.a &&& s.x) .absy s

/-- SHA (zz),Y, opcode 0x93 (R228). -/
def execShaIzy (zz : Byte) (s : State) : Result := opHighStore (s.izy zz) (s.a &&& s.x) .izy s

/-- SHX hhll,Y, opcode 0x9E (R229). -/
def execShxAbsy (hhll : Word) (s : State) : Result := opHighStore (s.absy hhll) s.x .absy s

/-- SHY hhll,X, opcode 0x9C (R230). -/
def execShyAbsx (hhll : Word) (s : State) : Result := opHighStore (s.absx hhll) s.y .absx s

/-- TAS hhll,Y, opcode 0x9B (R231). -/
def execTasAbsy (hhll : Word) (s : State) : Result := opTas (s.absy hhll) s

/-- NOP, opcode 0x1A (R232). -/
def execNopImp1A (s : State) : Result := opNop .imp s

/-- NOP, opcode 0x3A (R232). -/
def execNopImp3A (s : State) : Result := opNop .imp s

/-- NOP, opcode 0x5A (R232). -/
def execNopImp5A (s : State) : Result := opNop .imp s

/-- NOP, opcode 0x7A (R232). -/
def execNopImp7A (s : State) : Result := opNop .imp s

/-- NOP, opcode 0xDA (R232). -/
def execNopImpDA (s : State) : Result := opNop .imp s

/-- NOP, opcode 0xFA (R232). -/
def execNopImpFA (s : State) : Result := opNop .imp s

/-- NOP #ii, opcode 0x80 (R232). -/
def execNopImm80 (_ii : Byte) (s : State) : Result := opNop .imm s

/-- NOP #ii, opcode 0x82 (R232). -/
def execNopImm82 (_ii : Byte) (s : State) : Result := opNop .imm s

/-- NOP #ii, opcode 0x89 (R232). -/
def execNopImm89 (_ii : Byte) (s : State) : Result := opNop .imm s

/-- NOP #ii, opcode 0xC2 (R232). -/
def execNopImmC2 (_ii : Byte) (s : State) : Result := opNop .imm s

/-- NOP #ii, opcode 0xE2 (R232). -/
def execNopImmE2 (_ii : Byte) (s : State) : Result := opNop .imm s

/-- NOP zz, opcode 0x04 (R232). -/
def execNopZp04 (_zz : Byte) (s : State) : Result := opNop .zp s

/-- NOP zz, opcode 0x44 (R232). -/
def execNopZp44 (_zz : Byte) (s : State) : Result := opNop .zp s

/-- NOP zz, opcode 0x64 (R232). -/
def execNopZp64 (_zz : Byte) (s : State) : Result := opNop .zp s

/-- NOP zz,X, opcode 0x14 (R232). -/
def execNopZpx14 (_zz : Byte) (s : State) : Result := opNop .zpx s

/-- NOP zz,X, opcode 0x34 (R232). -/
def execNopZpx34 (_zz : Byte) (s : State) : Result := opNop .zpx s

/-- NOP zz,X, opcode 0x54 (R232). -/
def execNopZpx54 (_zz : Byte) (s : State) : Result := opNop .zpx s

/-- NOP zz,X, opcode 0x74 (R232). -/
def execNopZpx74 (_zz : Byte) (s : State) : Result := opNop .zpx s

/-- NOP zz,X, opcode 0xD4 (R232). -/
def execNopZpxD4 (_zz : Byte) (s : State) : Result := opNop .zpx s

/-- NOP zz,X, opcode 0xF4 (R232). -/
def execNopZpxF4 (_zz : Byte) (s : State) : Result := opNop .zpx s

/-- NOP hhll, opcode 0x0C (R232). -/
def execNopAbs0C (_hhll : Word) (s : State) : Result := opNop .abs s

/-- NOP hhll,X, opcode 0x1C (R232). -/
def execNopAbsx1C (_hhll : Word) (s : State) : Result := opNop .absx s

/-- NOP hhll,X, opcode 0x3C (R232). -/
def execNopAbsx3C (_hhll : Word) (s : State) : Result := opNop .absx s

/-- NOP hhll,X, opcode 0x5C (R232). -/
def execNopAbsx5C (_hhll : Word) (s : State) : Result := opNop .absx s

/-- NOP hhll,X, opcode 0x7C (R232). -/
def execNopAbsx7C (_hhll : Word) (s : State) : Result := opNop .absx s

/-- NOP hhll,X, opcode 0xDC (R232). -/
def execNopAbsxDC (_hhll : Word) (s : State) : Result := opNop .absx s

/-- NOP hhll,X, opcode 0xFC (R232). -/
def execNopAbsxFC (_hhll : Word) (s : State) : Result := opNop .absx s

/-- JAM, opcode 0x02 (R233). -/
def execJam02 (s : State) : Result := opJam s

/-- JAM, opcode 0x12 (R233). -/
def execJam12 (s : State) : Result := opJam s

/-- JAM, opcode 0x22 (R233). -/
def execJam22 (s : State) : Result := opJam s

/-- JAM, opcode 0x32 (R233). -/
def execJam32 (s : State) : Result := opJam s

/-- JAM, opcode 0x42 (R233). -/
def execJam42 (s : State) : Result := opJam s

/-- JAM, opcode 0x52 (R233). -/
def execJam52 (s : State) : Result := opJam s

/-- JAM, opcode 0x62 (R233). -/
def execJam62 (s : State) : Result := opJam s

/-- JAM, opcode 0x72 (R233). -/
def execJam72 (s : State) : Result := opJam s

/-- JAM, opcode 0x92 (R233). -/
def execJam92 (s : State) : Result := opJam s

/-- JAM, opcode 0xB2 (R233). -/
def execJamB2 (s : State) : Result := opJam s

/-- JAM, opcode 0xD2 (R233). -/
def execJamD2 (s : State) : Result := opJam s

/-- JAM, opcode 0xF2 (R233). -/
def execJamF2 (s : State) : Result := opJam s

end Sys2Proof.Machine
end

