-- ==== Sys2Proof/Machine/Dispatch.lean ====
section
/-! DEFINITION. Dispatch over the closed set of instructions (40_engine.md R92): one arm per constructor of Instr, each
one direct call of the instruction's meaning. -/

namespace Sys2Proof.Machine

/-- The meaning of an instruction at the state in which PC holds the address of its opcode (R90). -/
def exec (i : Instr) (s : State) : Host.Outcome State Fault Refusal :=
  match i with
  -- 41_arithmetic.md
  | .adcImm ii => Sys2Proof.Machine.execAdcImm ii s
  | .adcZp zz => Sys2Proof.Machine.execAdcZp zz s
  | .adcZpx zz => Sys2Proof.Machine.execAdcZpx zz s
  | .adcAbs hhll => Sys2Proof.Machine.execAdcAbs hhll s
  | .adcAbsx hhll => Sys2Proof.Machine.execAdcAbsx hhll s
  | .adcAbsy hhll => Sys2Proof.Machine.execAdcAbsy hhll s
  | .adcIzx zz => Sys2Proof.Machine.execAdcIzx zz s
  | .adcIzy zz => Sys2Proof.Machine.execAdcIzy zz s
  | .sbcImm ii => Sys2Proof.Machine.execSbcImm ii s
  | .sbcZp zz => Sys2Proof.Machine.execSbcZp zz s
  | .sbcZpx zz => Sys2Proof.Machine.execSbcZpx zz s
  | .sbcAbs hhll => Sys2Proof.Machine.execSbcAbs hhll s
  | .sbcAbsx hhll => Sys2Proof.Machine.execSbcAbsx hhll s
  | .sbcAbsy hhll => Sys2Proof.Machine.execSbcAbsy hhll s
  | .sbcIzx zz => Sys2Proof.Machine.execSbcIzx zz s
  | .sbcIzy zz => Sys2Proof.Machine.execSbcIzy zz s
  | .cmpImm ii => Sys2Proof.Machine.execCmpImm ii s
  | .cmpZp zz => Sys2Proof.Machine.execCmpZp zz s
  | .cmpZpx zz => Sys2Proof.Machine.execCmpZpx zz s
  | .cmpAbs hhll => Sys2Proof.Machine.execCmpAbs hhll s
  | .cmpAbsx hhll => Sys2Proof.Machine.execCmpAbsx hhll s
  | .cmpAbsy hhll => Sys2Proof.Machine.execCmpAbsy hhll s
  | .cmpIzx zz => Sys2Proof.Machine.execCmpIzx zz s
  | .cmpIzy zz => Sys2Proof.Machine.execCmpIzy zz s
  | .cpxImm ii => Sys2Proof.Machine.execCpxImm ii s
  | .cpxZp zz => Sys2Proof.Machine.execCpxZp zz s
  | .cpxAbs hhll => Sys2Proof.Machine.execCpxAbs hhll s
  | .cpyImm ii => Sys2Proof.Machine.execCpyImm ii s
  | .cpyZp zz => Sys2Proof.Machine.execCpyZp zz s
  | .cpyAbs hhll => Sys2Proof.Machine.execCpyAbs hhll s
  -- 42_shift_rotate.md
  | .aslAcc => Sys2Proof.Machine.execAslAcc s
  | .aslZp zz => Sys2Proof.Machine.execAslZp zz s
  | .aslZpx zz => Sys2Proof.Machine.execAslZpx zz s
  | .aslAbs hhll => Sys2Proof.Machine.execAslAbs hhll s
  | .aslAbsx hhll => Sys2Proof.Machine.execAslAbsx hhll s
  | .lsrAcc => Sys2Proof.Machine.execLsrAcc s
  | .lsrZp zz => Sys2Proof.Machine.execLsrZp zz s
  | .lsrZpx zz => Sys2Proof.Machine.execLsrZpx zz s
  | .lsrAbs hhll => Sys2Proof.Machine.execLsrAbs hhll s
  | .lsrAbsx hhll => Sys2Proof.Machine.execLsrAbsx hhll s
  | .rolAcc => Sys2Proof.Machine.execRolAcc s
  | .rolZp zz => Sys2Proof.Machine.execRolZp zz s
  | .rolZpx zz => Sys2Proof.Machine.execRolZpx zz s
  | .rolAbs hhll => Sys2Proof.Machine.execRolAbs hhll s
  | .rolAbsx hhll => Sys2Proof.Machine.execRolAbsx hhll s
  | .rorAcc => Sys2Proof.Machine.execRorAcc s
  | .rorZp zz => Sys2Proof.Machine.execRorZp zz s
  | .rorZpx zz => Sys2Proof.Machine.execRorZpx zz s
  | .rorAbs hhll => Sys2Proof.Machine.execRorAbs hhll s
  | .rorAbsx hhll => Sys2Proof.Machine.execRorAbsx hhll s
  -- 43_inc_dec.md
  | .incZp zz => Sys2Proof.Machine.execIncZp zz s
  | .incZpx zz => Sys2Proof.Machine.execIncZpx zz s
  | .incAbs hhll => Sys2Proof.Machine.execIncAbs hhll s
  | .incAbsx hhll => Sys2Proof.Machine.execIncAbsx hhll s
  | .decZp zz => Sys2Proof.Machine.execDecZp zz s
  | .decZpx zz => Sys2Proof.Machine.execDecZpx zz s
  | .decAbs hhll => Sys2Proof.Machine.execDecAbs hhll s
  | .decAbsx hhll => Sys2Proof.Machine.execDecAbsx hhll s
  | .inx => Sys2Proof.Machine.execInx s
  | .iny => Sys2Proof.Machine.execIny s
  | .dex => Sys2Proof.Machine.execDex s
  | .dey => Sys2Proof.Machine.execDey s
  -- 44_branches.md
  | .bcc dd => Sys2Proof.Machine.execBcc dd s
  | .bcs dd => Sys2Proof.Machine.execBcs dd s
  | .beq dd => Sys2Proof.Machine.execBeq dd s
  | .bne dd => Sys2Proof.Machine.execBne dd s
  | .bmi dd => Sys2Proof.Machine.execBmi dd s
  | .bpl dd => Sys2Proof.Machine.execBpl dd s
  | .bvc dd => Sys2Proof.Machine.execBvc dd s
  | .bvs dd => Sys2Proof.Machine.execBvs dd s
  -- 45_stack.md
  | .pha => Sys2Proof.Machine.execPha s
  | .php => Sys2Proof.Machine.execPhp s
  | .pla => Sys2Proof.Machine.execPla s
  | .plp => Sys2Proof.Machine.execPlp s
  | .tsx => Sys2Proof.Machine.execTsx s
  | .txs => Sys2Proof.Machine.execTxs s
  -- 46_jump_call.md
  | .jmpAbs hhll => Sys2Proof.Machine.execJmpAbs hhll s
  | .jmpInd hhll => Sys2Proof.Machine.execJmpInd hhll s
  | .jsrAbs hhll => Sys2Proof.Machine.execJsrAbs hhll s
  | .rts => Sys2Proof.Machine.execRts s
  | .brk ss => Sys2Proof.Machine.execBrk ss s
  | .rti => Sys2Proof.Machine.execRti s
  -- 47_load_store_transfer.md
  | .ldaImm ii => Sys2Proof.Machine.execLdaImm ii s
  | .ldaZp zz => Sys2Proof.Machine.execLdaZp zz s
  | .ldaZpx zz => Sys2Proof.Machine.execLdaZpx zz s
  | .ldaAbs hhll => Sys2Proof.Machine.execLdaAbs hhll s
  | .ldaAbsx hhll => Sys2Proof.Machine.execLdaAbsx hhll s
  | .ldaAbsy hhll => Sys2Proof.Machine.execLdaAbsy hhll s
  | .ldaIzx zz => Sys2Proof.Machine.execLdaIzx zz s
  | .ldaIzy zz => Sys2Proof.Machine.execLdaIzy zz s
  | .ldxImm ii => Sys2Proof.Machine.execLdxImm ii s
  | .ldxZp zz => Sys2Proof.Machine.execLdxZp zz s
  | .ldxZpy zz => Sys2Proof.Machine.execLdxZpy zz s
  | .ldxAbs hhll => Sys2Proof.Machine.execLdxAbs hhll s
  | .ldxAbsy hhll => Sys2Proof.Machine.execLdxAbsy hhll s
  | .ldyImm ii => Sys2Proof.Machine.execLdyImm ii s
  | .ldyZp zz => Sys2Proof.Machine.execLdyZp zz s
  | .ldyZpx zz => Sys2Proof.Machine.execLdyZpx zz s
  | .ldyAbs hhll => Sys2Proof.Machine.execLdyAbs hhll s
  | .ldyAbsx hhll => Sys2Proof.Machine.execLdyAbsx hhll s
  | .staZp zz => Sys2Proof.Machine.execStaZp zz s
  | .staZpx zz => Sys2Proof.Machine.execStaZpx zz s
  | .staAbs hhll => Sys2Proof.Machine.execStaAbs hhll s
  | .staAbsx hhll => Sys2Proof.Machine.execStaAbsx hhll s
  | .staAbsy hhll => Sys2Proof.Machine.execStaAbsy hhll s
  | .staIzx zz => Sys2Proof.Machine.execStaIzx zz s
  | .staIzy zz => Sys2Proof.Machine.execStaIzy zz s
  | .stxZp zz => Sys2Proof.Machine.execStxZp zz s
  | .stxZpy zz => Sys2Proof.Machine.execStxZpy zz s
  | .stxAbs hhll => Sys2Proof.Machine.execStxAbs hhll s
  | .styZp zz => Sys2Proof.Machine.execStyZp zz s
  | .styZpx zz => Sys2Proof.Machine.execStyZpx zz s
  | .styAbs hhll => Sys2Proof.Machine.execStyAbs hhll s
  | .tax => Sys2Proof.Machine.execTax s
  | .tay => Sys2Proof.Machine.execTay s
  | .txa => Sys2Proof.Machine.execTxa s
  | .tya => Sys2Proof.Machine.execTya s
  -- 48_logic_flags_nop.md
  | .andImm ii => Sys2Proof.Machine.execAndImm ii s
  | .andZp zz => Sys2Proof.Machine.execAndZp zz s
  | .andZpx zz => Sys2Proof.Machine.execAndZpx zz s
  | .andAbs hhll => Sys2Proof.Machine.execAndAbs hhll s
  | .andAbsx hhll => Sys2Proof.Machine.execAndAbsx hhll s
  | .andAbsy hhll => Sys2Proof.Machine.execAndAbsy hhll s
  | .andIzx zz => Sys2Proof.Machine.execAndIzx zz s
  | .andIzy zz => Sys2Proof.Machine.execAndIzy zz s
  | .oraImm ii => Sys2Proof.Machine.execOraImm ii s
  | .oraZp zz => Sys2Proof.Machine.execOraZp zz s
  | .oraZpx zz => Sys2Proof.Machine.execOraZpx zz s
  | .oraAbs hhll => Sys2Proof.Machine.execOraAbs hhll s
  | .oraAbsx hhll => Sys2Proof.Machine.execOraAbsx hhll s
  | .oraAbsy hhll => Sys2Proof.Machine.execOraAbsy hhll s
  | .oraIzx zz => Sys2Proof.Machine.execOraIzx zz s
  | .oraIzy zz => Sys2Proof.Machine.execOraIzy zz s
  | .eorImm ii => Sys2Proof.Machine.execEorImm ii s
  | .eorZp zz => Sys2Proof.Machine.execEorZp zz s
  | .eorZpx zz => Sys2Proof.Machine.execEorZpx zz s
  | .eorAbs hhll => Sys2Proof.Machine.execEorAbs hhll s
  | .eorAbsx hhll => Sys2Proof.Machine.execEorAbsx hhll s
  | .eorAbsy hhll => Sys2Proof.Machine.execEorAbsy hhll s
  | .eorIzx zz => Sys2Proof.Machine.execEorIzx zz s
  | .eorIzy zz => Sys2Proof.Machine.execEorIzy zz s
  | .bitZp zz => Sys2Proof.Machine.execBitZp zz s
  | .bitAbs hhll => Sys2Proof.Machine.execBitAbs hhll s
  | .clc => Sys2Proof.Machine.execClc s
  | .sec => Sys2Proof.Machine.execSec s
  | .cli => Sys2Proof.Machine.execCli s
  | .sei => Sys2Proof.Machine.execSei s
  | .cld => Sys2Proof.Machine.execCld s
  | .sed => Sys2Proof.Machine.execSed s
  | .clv => Sys2Proof.Machine.execClv s
  | .nop => Sys2Proof.Machine.execNop s
  -- 49_undocumented.md
  | .sloZp zz => Sys2Proof.Machine.execSloZp zz s
  | .sloZpx zz => Sys2Proof.Machine.execSloZpx zz s
  | .sloAbs hhll => Sys2Proof.Machine.execSloAbs hhll s
  | .sloAbsx hhll => Sys2Proof.Machine.execSloAbsx hhll s
  | .sloAbsy hhll => Sys2Proof.Machine.execSloAbsy hhll s
  | .sloIzx zz => Sys2Proof.Machine.execSloIzx zz s
  | .sloIzy zz => Sys2Proof.Machine.execSloIzy zz s
  | .rlaZp zz => Sys2Proof.Machine.execRlaZp zz s
  | .rlaZpx zz => Sys2Proof.Machine.execRlaZpx zz s
  | .rlaAbs hhll => Sys2Proof.Machine.execRlaAbs hhll s
  | .rlaAbsx hhll => Sys2Proof.Machine.execRlaAbsx hhll s
  | .rlaAbsy hhll => Sys2Proof.Machine.execRlaAbsy hhll s
  | .rlaIzx zz => Sys2Proof.Machine.execRlaIzx zz s
  | .rlaIzy zz => Sys2Proof.Machine.execRlaIzy zz s
  | .sreZp zz => Sys2Proof.Machine.execSreZp zz s
  | .sreZpx zz => Sys2Proof.Machine.execSreZpx zz s
  | .sreAbs hhll => Sys2Proof.Machine.execSreAbs hhll s
  | .sreAbsx hhll => Sys2Proof.Machine.execSreAbsx hhll s
  | .sreAbsy hhll => Sys2Proof.Machine.execSreAbsy hhll s
  | .sreIzx zz => Sys2Proof.Machine.execSreIzx zz s
  | .sreIzy zz => Sys2Proof.Machine.execSreIzy zz s
  | .rraZp zz => Sys2Proof.Machine.execRraZp zz s
  | .rraZpx zz => Sys2Proof.Machine.execRraZpx zz s
  | .rraAbs hhll => Sys2Proof.Machine.execRraAbs hhll s
  | .rraAbsx hhll => Sys2Proof.Machine.execRraAbsx hhll s
  | .rraAbsy hhll => Sys2Proof.Machine.execRraAbsy hhll s
  | .rraIzx zz => Sys2Proof.Machine.execRraIzx zz s
  | .rraIzy zz => Sys2Proof.Machine.execRraIzy zz s
  | .dcpZp zz => Sys2Proof.Machine.execDcpZp zz s
  | .dcpZpx zz => Sys2Proof.Machine.execDcpZpx zz s
  | .dcpAbs hhll => Sys2Proof.Machine.execDcpAbs hhll s
  | .dcpAbsx hhll => Sys2Proof.Machine.execDcpAbsx hhll s
  | .dcpAbsy hhll => Sys2Proof.Machine.execDcpAbsy hhll s
  | .dcpIzx zz => Sys2Proof.Machine.execDcpIzx zz s
  | .dcpIzy zz => Sys2Proof.Machine.execDcpIzy zz s
  | .iscZp zz => Sys2Proof.Machine.execIscZp zz s
  | .iscZpx zz => Sys2Proof.Machine.execIscZpx zz s
  | .iscAbs hhll => Sys2Proof.Machine.execIscAbs hhll s
  | .iscAbsx hhll => Sys2Proof.Machine.execIscAbsx hhll s
  | .iscAbsy hhll => Sys2Proof.Machine.execIscAbsy hhll s
  | .iscIzx zz => Sys2Proof.Machine.execIscIzx zz s
  | .iscIzy zz => Sys2Proof.Machine.execIscIzy zz s
  | .saxZp zz => Sys2Proof.Machine.execSaxZp zz s
  | .saxZpy zz => Sys2Proof.Machine.execSaxZpy zz s
  | .saxAbs hhll => Sys2Proof.Machine.execSaxAbs hhll s
  | .saxIzx zz => Sys2Proof.Machine.execSaxIzx zz s
  | .laxZp zz => Sys2Proof.Machine.execLaxZp zz s
  | .laxZpy zz => Sys2Proof.Machine.execLaxZpy zz s
  | .laxAbs hhll => Sys2Proof.Machine.execLaxAbs hhll s
  | .laxAbsy hhll => Sys2Proof.Machine.execLaxAbsy hhll s
  | .laxIzx zz => Sys2Proof.Machine.execLaxIzx zz s
  | .laxIzy zz => Sys2Proof.Machine.execLaxIzy zz s
  | .ancImm0B ii => Sys2Proof.Machine.execAncImm0B ii s
  | .ancImm2B ii => Sys2Proof.Machine.execAncImm2B ii s
  | .alrImm ii => Sys2Proof.Machine.execAlrImm ii s
  | .arrImm ii => Sys2Proof.Machine.execArrImm ii s
  | .xaaImm ii => Sys2Proof.Machine.execXaaImm ii s
  | .lxaImm ii => Sys2Proof.Machine.execLxaImm ii s
  | .sbxImm ii => Sys2Proof.Machine.execSbxImm ii s
  | .sbcImmEB ii => Sys2Proof.Machine.execSbcImmEB ii s
  | .lasAbsy hhll => Sys2Proof.Machine.execLasAbsy hhll s
  | .shaAbsy hhll => Sys2Proof.Machine.execShaAbsy hhll s
  | .shaIzy zz => Sys2Proof.Machine.execShaIzy zz s
  | .shxAbsy hhll => Sys2Proof.Machine.execShxAbsy hhll s
  | .shyAbsx hhll => Sys2Proof.Machine.execShyAbsx hhll s
  | .tasAbsy hhll => Sys2Proof.Machine.execTasAbsy hhll s
  | .nopImp1A => Sys2Proof.Machine.execNopImp1A s
  | .nopImp3A => Sys2Proof.Machine.execNopImp3A s
  | .nopImp5A => Sys2Proof.Machine.execNopImp5A s
  | .nopImp7A => Sys2Proof.Machine.execNopImp7A s
  | .nopImpDA => Sys2Proof.Machine.execNopImpDA s
  | .nopImpFA => Sys2Proof.Machine.execNopImpFA s
  | .nopImm80 ii => Sys2Proof.Machine.execNopImm80 ii s
  | .nopImm82 ii => Sys2Proof.Machine.execNopImm82 ii s
  | .nopImm89 ii => Sys2Proof.Machine.execNopImm89 ii s
  | .nopImmC2 ii => Sys2Proof.Machine.execNopImmC2 ii s
  | .nopImmE2 ii => Sys2Proof.Machine.execNopImmE2 ii s
  | .nopZp04 zz => Sys2Proof.Machine.execNopZp04 zz s
  | .nopZp44 zz => Sys2Proof.Machine.execNopZp44 zz s
  | .nopZp64 zz => Sys2Proof.Machine.execNopZp64 zz s
  | .nopZpx14 zz => Sys2Proof.Machine.execNopZpx14 zz s
  | .nopZpx34 zz => Sys2Proof.Machine.execNopZpx34 zz s
  | .nopZpx54 zz => Sys2Proof.Machine.execNopZpx54 zz s
  | .nopZpx74 zz => Sys2Proof.Machine.execNopZpx74 zz s
  | .nopZpxD4 zz => Sys2Proof.Machine.execNopZpxD4 zz s
  | .nopZpxF4 zz => Sys2Proof.Machine.execNopZpxF4 zz s
  | .nopAbs0C hhll => Sys2Proof.Machine.execNopAbs0C hhll s
  | .nopAbsx1C hhll => Sys2Proof.Machine.execNopAbsx1C hhll s
  | .nopAbsx3C hhll => Sys2Proof.Machine.execNopAbsx3C hhll s
  | .nopAbsx5C hhll => Sys2Proof.Machine.execNopAbsx5C hhll s
  | .nopAbsx7C hhll => Sys2Proof.Machine.execNopAbsx7C hhll s
  | .nopAbsxDC hhll => Sys2Proof.Machine.execNopAbsxDC hhll s
  | .nopAbsxFC hhll => Sys2Proof.Machine.execNopAbsxFC hhll s
  | .jam02 => Sys2Proof.Machine.execJam02 s
  | .jam12 => Sys2Proof.Machine.execJam12 s
  | .jam22 => Sys2Proof.Machine.execJam22 s
  | .jam32 => Sys2Proof.Machine.execJam32 s
  | .jam42 => Sys2Proof.Machine.execJam42 s
  | .jam52 => Sys2Proof.Machine.execJam52 s
  | .jam62 => Sys2Proof.Machine.execJam62 s
  | .jam72 => Sys2Proof.Machine.execJam72 s
  | .jam92 => Sys2Proof.Machine.execJam92 s
  | .jamB2 => Sys2Proof.Machine.execJamB2 s
  | .jamD2 => Sys2Proof.Machine.execJamD2 s
  | .jamF2 => Sys2Proof.Machine.execJamF2 s

end Sys2Proof.Machine
end

