-- ==== Sys2Proof/Decode.lean ====
section
/-! DEFINITION. The decoder, total on any list of bytes (30_encoding.md R70, R71), and after it the encoder (R72, R73).

The decoder looks the opcode byte up in the full 8-bit table, never by fields (R74), and takes the operand bytes the
row asks for, low byte first. It rejects by name: `truncated` (fewer bytes than the instruction's length) and
`unmappedOpcode` (no row for the opcode, which R70 says cannot happen). -/

namespace Sys2Proof

/-- Why a list of bytes is no instruction. -/
inductive DecodeError where
  /-- Fewer bytes than the opcode's length asks for. -/
  | truncated
  /-- No row for the opcode (60_exceptions.md R241); unreachable, the table is total (R70). -/
  | unmappedOpcode
  deriving DecidableEq, Repr

/-- A row of the decoder: an instruction of one byte, or how its one or two operand bytes make it. -/
inductive DecodeRow where
  | one (i : Instr)
  | two (f : Byte → Instr)
  | three (f : Word → Instr)

/-- Opcodes 0x00..0x0F (R75). -/
def decodeRow0 : List DecodeRow :=
  [.two .brk, .two .oraIzx, .one .jam02, .two .sloIzx,
   .two .nopZp04, .two .oraZp, .two .aslZp, .two .sloZp,
   .one .php, .two .oraImm, .one .aslAcc, .two .ancImm0B,
   .three .nopAbs0C, .three .oraAbs, .three .aslAbs, .three .sloAbs]

/-- Opcodes 0x10..0x1F (R75). -/
def decodeRow1 : List DecodeRow :=
  [.two .bpl, .two .oraIzy, .one .jam12, .two .sloIzy,
   .two .nopZpx14, .two .oraZpx, .two .aslZpx, .two .sloZpx,
   .one .clc, .three .oraAbsy, .one .nopImp1A, .three .sloAbsy,
   .three .nopAbsx1C, .three .oraAbsx, .three .aslAbsx, .three .sloAbsx]

/-- Opcodes 0x20..0x2F (R75). -/
def decodeRow2 : List DecodeRow :=
  [.three .jsrAbs, .two .andIzx, .one .jam22, .two .rlaIzx,
   .two .bitZp, .two .andZp, .two .rolZp, .two .rlaZp,
   .one .plp, .two .andImm, .one .rolAcc, .two .ancImm2B,
   .three .bitAbs, .three .andAbs, .three .rolAbs, .three .rlaAbs]

/-- Opcodes 0x30..0x3F (R75). -/
def decodeRow3 : List DecodeRow :=
  [.two .bmi, .two .andIzy, .one .jam32, .two .rlaIzy,
   .two .nopZpx34, .two .andZpx, .two .rolZpx, .two .rlaZpx,
   .one .sec, .three .andAbsy, .one .nopImp3A, .three .rlaAbsy,
   .three .nopAbsx3C, .three .andAbsx, .three .rolAbsx, .three .rlaAbsx]

/-- Opcodes 0x40..0x4F (R75). -/
def decodeRow4 : List DecodeRow :=
  [.one .rti, .two .eorIzx, .one .jam42, .two .sreIzx,
   .two .nopZp44, .two .eorZp, .two .lsrZp, .two .sreZp,
   .one .pha, .two .eorImm, .one .lsrAcc, .two .alrImm,
   .three .jmpAbs, .three .eorAbs, .three .lsrAbs, .three .sreAbs]

/-- Opcodes 0x50..0x5F (R75). -/
def decodeRow5 : List DecodeRow :=
  [.two .bvc, .two .eorIzy, .one .jam52, .two .sreIzy,
   .two .nopZpx54, .two .eorZpx, .two .lsrZpx, .two .sreZpx,
   .one .cli, .three .eorAbsy, .one .nopImp5A, .three .sreAbsy,
   .three .nopAbsx5C, .three .eorAbsx, .three .lsrAbsx, .three .sreAbsx]

/-- Opcodes 0x60..0x6F (R75). -/
def decodeRow6 : List DecodeRow :=
  [.one .rts, .two .adcIzx, .one .jam62, .two .rraIzx,
   .two .nopZp64, .two .adcZp, .two .rorZp, .two .rraZp,
   .one .pla, .two .adcImm, .one .rorAcc, .two .arrImm,
   .three .jmpInd, .three .adcAbs, .three .rorAbs, .three .rraAbs]

/-- Opcodes 0x70..0x7F (R75). -/
def decodeRow7 : List DecodeRow :=
  [.two .bvs, .two .adcIzy, .one .jam72, .two .rraIzy,
   .two .nopZpx74, .two .adcZpx, .two .rorZpx, .two .rraZpx,
   .one .sei, .three .adcAbsy, .one .nopImp7A, .three .rraAbsy,
   .three .nopAbsx7C, .three .adcAbsx, .three .rorAbsx, .three .rraAbsx]

/-- Opcodes 0x80..0x8F (R75). -/
def decodeRow8 : List DecodeRow :=
  [.two .nopImm80, .two .staIzx, .two .nopImm82, .two .saxIzx,
   .two .styZp, .two .staZp, .two .stxZp, .two .saxZp,
   .one .dey, .two .nopImm89, .one .txa, .two .xaaImm,
   .three .styAbs, .three .staAbs, .three .stxAbs, .three .saxAbs]

/-- Opcodes 0x90..0x9F (R75). -/
def decodeRow9 : List DecodeRow :=
  [.two .bcc, .two .staIzy, .one .jam92, .two .shaIzy,
   .two .styZpx, .two .staZpx, .two .stxZpy, .two .saxZpy,
   .one .tya, .three .staAbsy, .one .txs, .three .tasAbsy,
   .three .shyAbsx, .three .staAbsx, .three .shxAbsy, .three .shaAbsy]

/-- Opcodes 0xA0..0xAF (R75). -/
def decodeRowA : List DecodeRow :=
  [.two .ldyImm, .two .ldaIzx, .two .ldxImm, .two .laxIzx,
   .two .ldyZp, .two .ldaZp, .two .ldxZp, .two .laxZp,
   .one .tay, .two .ldaImm, .one .tax, .two .lxaImm,
   .three .ldyAbs, .three .ldaAbs, .three .ldxAbs, .three .laxAbs]

/-- Opcodes 0xB0..0xBF (R75). -/
def decodeRowB : List DecodeRow :=
  [.two .bcs, .two .ldaIzy, .one .jamB2, .two .laxIzy,
   .two .ldyZpx, .two .ldaZpx, .two .ldxZpy, .two .laxZpy,
   .one .clv, .three .ldaAbsy, .one .tsx, .three .lasAbsy,
   .three .ldyAbsx, .three .ldaAbsx, .three .ldxAbsy, .three .laxAbsy]

/-- Opcodes 0xC0..0xCF (R75). -/
def decodeRowC : List DecodeRow :=
  [.two .cpyImm, .two .cmpIzx, .two .nopImmC2, .two .dcpIzx,
   .two .cpyZp, .two .cmpZp, .two .decZp, .two .dcpZp,
   .one .iny, .two .cmpImm, .one .dex, .two .sbxImm,
   .three .cpyAbs, .three .cmpAbs, .three .decAbs, .three .dcpAbs]

/-- Opcodes 0xD0..0xDF (R75). -/
def decodeRowD : List DecodeRow :=
  [.two .bne, .two .cmpIzy, .one .jamD2, .two .dcpIzy,
   .two .nopZpxD4, .two .cmpZpx, .two .decZpx, .two .dcpZpx,
   .one .cld, .three .cmpAbsy, .one .nopImpDA, .three .dcpAbsy,
   .three .nopAbsxDC, .three .cmpAbsx, .three .decAbsx, .three .dcpAbsx]

/-- Opcodes 0xE0..0xEF (R75). -/
def decodeRowE : List DecodeRow :=
  [.two .cpxImm, .two .sbcIzx, .two .nopImmE2, .two .iscIzx,
   .two .cpxZp, .two .sbcZp, .two .incZp, .two .iscZp,
   .one .inx, .two .sbcImm, .one .nop, .two .sbcImmEB,
   .three .cpxAbs, .three .sbcAbs, .three .incAbs, .three .iscAbs]

/-- Opcodes 0xF0..0xFF (R75). -/
def decodeRowF : List DecodeRow :=
  [.two .beq, .two .sbcIzy, .one .jamF2, .two .iscIzy,
   .two .nopZpxF4, .two .sbcZpx, .two .incZpx, .two .iscZpx,
   .one .sed, .three .sbcAbsy, .one .nopImpFA, .three .iscAbsy,
   .three .nopAbsxFC, .three .sbcAbsx, .three .incAbsx, .three .iscAbsx]

/-- The 256 decoder rows, in the rows and columns of R75. -/
def decodeTable : List (List DecodeRow) :=
  [decodeRow0, decodeRow1, decodeRow2, decodeRow3, decodeRow4, decodeRow5, decodeRow6, decodeRow7,
   decodeRow8, decodeRow9, decodeRowA, decodeRowB, decodeRowC, decodeRowD, decodeRowE, decodeRowF]

/-- The decoder row of an opcode byte (R70: "exactly one descriptor per opcode value 0–255"). -/
def decodeRow (op : Byte) : Option DecodeRow :=
  decodeTable[op.toNat / 16]?.bind fun row => row[op.toNat % 16]?

/-- Reads one instruction from the front of a list of bytes and answers it with the bytes that are left (R71). -/
def decode : List Byte → Except DecodeError (Instr × List Byte)
  | [] => .error .truncated
  | op :: bytes =>
    match decodeRow op, bytes with
    | none, _ => .error .unmappedOpcode
    | some (.one i), rest => .ok (i, rest)
    | some (.two f), b :: rest => .ok (f b, rest)
    | some (.three f), ll :: hh :: rest => .ok (f (joinBytes hh ll), rest)
    | some _, _ => .error .truncated

/-- How many bytes the decoder takes for an opcode (R71: "A decoder tells the length of an instruction from its first
byte"); 1 for an opcode without a row, which the decoder then rejects. -/
def opcodeLength (op : Byte) : Nat :=
  match decodeRow op with
  | some (.two _) => 2
  | some (.three _) => 3
  | _ => 1

/-- The operand bytes in increasing addresses (R72). -/
def MemOperand.bytes : MemOperand → List Byte
  | .zp zz | .zpx zz | .zpy zz | .izx zz | .izy zz => [zz]
  | .abs hhll | .absx hhll | .absy hhll => [loByte hhll, hiByte hhll]

/-- The operand bytes in increasing addresses (R72). -/
def Operand.bytes : Operand → List Byte
  | .imp | .acc => []
  | .imm b | .sig b | .rel b => [b]
  | .mem m => m.bytes
  | .ind hhll => [loByte hhll, hiByte hhll]

/-- The bytes of an instruction: its opcode, then its operand bytes (R71, R72). -/
def encode (i : Instr) : List Byte := i.opcode :: i.operand.bytes

/-- The bytes of a table word: bit 0 of `w` is bit 0 of the first byte, every bit from `nbits` on is 0, and three
bytes hold the longest instruction. -/
def tableBytes (nbits w : Nat) : List Byte :=
  let v := w % 2 ^ nbits
  [BitVec.ofNat 8 v, BitVec.ofNat 8 (v / 256), BitVec.ofNat 8 (v / 65536)]

/-- The instruction the decoder reads from the bits of an opcode-table row. -/
def decodeTableWord (nbits w : Nat) : Option Instr :=
  match decode (tableBytes nbits w) with
  | .ok (i, _) => some i
  | .error _ => none

end Sys2Proof
end

