-- ==== Sys2Proof/Machine/Fetch.lean ====
section
/-! DEFINITION. The instruction fetch of a step (40_engine.md R90, 20_memory.md R51): the checks in the order of R90, the
opcode byte at PC, then the operand bytes its length asks for, at PC + 1 and PC + 2 modulo 65,536. -/

namespace Sys2Proof.Machine

/-- The bytes of the instruction at PC: as many as the opcode's length (R51, R71). -/
def State.fetchBytes (s : State) : List Byte := s.mem.bytesFrom s.pc (opcodeLength (s.read s.pc))

/-- The instruction at PC, or the Error the fetch ends in (R90, R91, R241). -/
def State.fetch (s : State) : Except Fault Instr :=
  if 65536 ≤ s.pc.toNat then .error .outOfBoundsProgramCounter
  else
    match decode s.fetchBytes with
    | .ok (i, _) => .ok i
    | .error _ => .error .unmappedOpcode

/-- The state with the bytes of a table word stored where the next fetch reads them. -/
def State.storeAtPC (s : State) (bytes : List Byte) : State := { s with mem := s.mem.writeBytes s.pc bytes }

end Sys2Proof.Machine
end

