-- ==== Sys2Proof/Machine/Step.lean ====
section
/-! DEFINITION. One step (40_engine.md R90): fetch, decode, dispatch. A next state is the outcome Running; the fault
`stopped` is the outcome Stopped, the other two faults are the outcome Error, and each leaves the state as it was
(00_scope.md R12). A step adds nothing around the instruction's meaning, which itself moves PC past the bytes. -/

namespace Sys2Proof.Machine

/-- One step: exactly one instruction (R90). -/
def step (s : State) : Host.Outcome State Fault Refusal :=
  match s.fetch with
  | .ok i => exec i s
  | .error f => .fault f

/-- The state in which the next step fetches and runs the instruction whose table word is `w` (30_encoding.md R82): its
bytes stand at PC, PC + 1 and PC + 2, and nothing else differs. -/
def State.withFetchWord (s : State) (nbits w : Nat) : State := s.storeAtPC (tableBytes nbits w)

end Sys2Proof.Machine
end

