-- ==== Sys2Proof/Machine/HostOps.lean ====
section
/-! DEFINITION. The host operations of 10_state.md R45, each executed between steps and never during one, and the
outcome of a step as the host sees it (40_engine.md R107). They are inputs of the machine, not part of a step. -/

namespace Sys2Proof.Machine

/-- `construct()`: zeroed memory and the registers of R260 with PC = 0x0000 (R264, 92 D2). -/
def State.construct : State := State.reset

/-- `reset()`: the registers of 70_reset_and_hazards.md R260, PC from the reset vector (R261), memory unchanged (R262). -/
def State.hostReset (s : State) : State :=
  { a := 0x00, x := 0x00, y := 0x00, sp := 0xFF, pc := s.mem.readWord Config.resetVector, p := 0x00, mem := s.mem }

/-- `read_byte(a)` (R45). -/
def State.readByte (s : State) (addr : Word) : Byte := s.mem.read addr

/-- `write_byte(a, v)` (R45). -/
def State.writeByte (s : State) (addr : Word) (v : Byte) : State := { s with mem := s.mem.write addr v }

/-- `load(bytes, offset)`, wrapping past 0xFFFF (R45). -/
def State.load (s : State) (bytes : List Byte) (offset : Word) : State :=
  { s with mem := s.mem.writeBytes offset bytes }

/-- `clear_memory()`: every byte 0x00 (R45). -/
def State.clearMemory (s : State) : State := { s with mem := [] }

/-- The register file and status (R45 `snapshot`). -/
structure Snapshot where
  a : Byte
  x : Byte
  y : Byte
  sp : Byte
  pc : Word
  p : Byte
  deriving DecidableEq, Repr

/-- `snapshot()` (R45, R46). -/
def State.snapshot (s : State) : Snapshot := ⟨s.a, s.x, s.y, s.sp, s.pc, s.p⟩

/-- `read_range(a, n)`, addresses modulo 65,536 (R45, R46). -/
def State.readRange (s : State) (addr : Word) (n : Nat) : List Byte := s.mem.bytesFrom addr n

/-- The three outcomes of a step (R107). An Error carries its reason (R241). -/
inductive Signal where
  | running
  | stopped
  | error (reason : Fault)
  deriving DecidableEq, Repr

/-- `step()` as the host calls it: the outcome, and the state after it, which for Stopped and Error is the state before
(R12, R90). The refusal, which no instruction of this model gives, is read as the Error of an incomplete table. -/
def State.hostStep (s : State) : Signal × State :=
  match step s with
  | .next t => (.running, t)
  | .fault .stopped => (.stopped, s)
  | .fault f => (.error f, s)
  | .refused _ => (.error .unmappedOpcode, s)

/-- The numeric codes of the Error reasons (R241, 92 D23); `stopped` is no Error and has none. -/
def errorCode : Fault → Option Nat
  | .outOfBoundsProgramCounter => some 0
  | .unmappedOpcode => some 1
  | .stopped => none

end Sys2Proof.Machine
end

