-- ==== Sys2Proof/Safety.lean ====
section
/-! DEFINITION. What counts as a safe run, in the terms the claims use. -/

namespace Sys2Proof.Machine

/-- The invariant of the model: memory is in its canonical form. Every other field admits all its values (10_state.md
R47: a launch state may be any tuple of R20). -/
def Inv (s : State) : Prop := s.mem.wf

/-- The opcode at PC is one of the halt opcodes (30_encoding.md R77, R233). -/
def AtJam (s : State) : Prop := (tableEntry (s.read s.pc)).map Prod.fst = some .jam

/-- `t` is reached from `s` in `n` steps, each of which returned Running. -/
def RunsTo : Nat → State → State → Prop
  | 0, s, t => s = t
  | n + 1, s, t => ∃ r, step s = .next r ∧ RunsTo n r t

/-- A safe state: its step is neither an Error nor a refusal (60_exceptions.md R240, R241). -/
def StepSafe (s : State) : Prop := (∃ t, step s = .next t) ∨ step s = .fault .stopped

end Sys2Proof.Machine
end

