-- ==== Sys2Proof/WellFormed.lean ====
section
/-! DEFINITION. Well-formedness. The fields of `Instr` are exact bit vectors, so an instruction cannot hold an operand
that does not fit. What is checked is that its table entry stands in the opcode map of 30_encoding.md R75: at the
entry's opcode the map has that mnemonic and that format. -/

namespace Sys2Proof

/-- The opcode map has the entry's mnemonic at the entry's opcode (R75). -/
def Descriptor.mnemonicOk (d : Descriptor) : Bool :=
  (tableEntry d.opcode).map Prod.fst == some d.mnemonic

/-- The opcode map has the entry's format at the entry's opcode (R75). -/
def Descriptor.formatOk (d : Descriptor) : Bool :=
  (tableEntry d.opcode).map Prod.snd == some d.operand.format

/-- Both checks. -/
def Descriptor.wellFormed (d : Descriptor) : Bool := d.mnemonicOk && d.formatOk

/-- An instruction is well formed when its table entry is. -/
def Instr.wellFormed (i : Instr) : Bool := i.descriptor.wellFormed

end Sys2Proof
end

