-- ==== Sys2Proof/Certificates/Slice0/Obligations.lean ====
section
/-! DEFINITION. The statements for the provers. First the words they are written in, then the statements.

The address formulas below are written on natural numbers from the resolver's rules (40_engine.md R96-R103) and not
through the model's own resolver, so a statement about an instruction also says which address each of its forms uses. -/

namespace Sys2Proof.Stating

open Sys2Proof Sys2Proof.Machine

/-- `exec i s` answers a next state with the property. -/
def Runs (i : Instr) (s : State) (post : State → Prop) : Prop := ∃ t, exec i s = .next t ∧ post t

/-- Every byte of memory reads as before. -/
def MemoryKept (s t : State) : Prop := ∀ a : Word, t.read a = s.read a

/-- The byte at `ea` is `v`; every byte at another address reads as before. -/
def Stored (s t : State) (ea : Word) (v : Byte) : Prop := t.read ea = v ∧ ∀ a : Word, a ≠ ea → t.read a = s.read a

/-- The four byte registers. -/
def Regs (t : State) (a x y sp : Byte) : Prop := t.a = a ∧ t.x = x ∧ t.y = y ∧ t.sp = sp

/-- The listed flags are as before. -/
def FlagsKept (fs : List Flag) (s t : State) : Prop := ∀ f ∈ fs, t.flag f = s.flag f

/-- Z says that `r` is zero and N is its bit 7 (00_scope.md R13). -/
def NZ (r : Byte) (t : State) : Prop := t.flag .z = decide (r = 0) ∧ t.flag .n = r.getLsbD 7

/-- A flag as a number. -/
def num (b : Bool) : Nat := if b then 1 else 0

/-- An address from a number, modulo 65,536. -/
def addr (n : Nat) : Word := BitVec.ofNat 16 n

/-- The Word at the zero-page pointer `z`, its second byte at `(z + 1) mod 256` (R101, R102). -/
def pointer (s : State) (z : Nat) : Nat :=
  (s.read (addr ((z + 1) % 256))).toNat * 256 + (s.read (addr z)).toNat

/-- The address of the stack byte for a value of SP (10_state.md R25). -/
def stackByte (sp : Byte) : Word := addr (256 + sp.toNat)

/-! ### One form of an instruction, for every operand and every state: it completes, PC moves by its length, and the
property holds of the state before, the operand, and the state after. -/

/-- `imp` (R94). -/
def OnImp (i : Instr) (post : State → State → Prop) : Prop :=
  ∀ s, Runs i s fun t => t.pc = s.pc + 1 ∧ post s t

/-- `imm` (R95): the property is about the immediate byte. -/
def OnImm (i : Byte → Instr) (post : State → Byte → State → Prop) : Prop :=
  ∀ ii s, Runs (i ii) s fun t => t.pc = s.pc + 2 ∧ post s ii t

/-- `zp` (R96): the property is about the effective address. -/
def OnZp (i : Byte → Instr) (post : State → Word → State → Prop) : Prop :=
  ∀ zz s, Runs (i zz) s fun t => t.pc = s.pc + 2 ∧ post s (addr zz.toNat) t

/-- `zpx` (R96). -/
def OnZpx (i : Byte → Instr) (post : State → Word → State → Prop) : Prop :=
  ∀ zz s, Runs (i zz) s fun t => t.pc = s.pc + 2 ∧ post s (addr ((zz.toNat + s.x.toNat) % 256)) t

/-- `zpy` (R96). -/
def OnZpy (i : Byte → Instr) (post : State → Word → State → Prop) : Prop :=
  ∀ zz s, Runs (i zz) s fun t => t.pc = s.pc + 2 ∧ post s (addr ((zz.toNat + s.y.toNat) % 256)) t

/-- `abs` (R97). -/
def OnAbs (i : Word → Instr) (post : State → Word → State → Prop) : Prop :=
  ∀ hhll s, Runs (i hhll) s fun t => t.pc = s.pc + 3 ∧ post s hhll t

/-- `absx` (R98). -/
def OnAbsx (i : Word → Instr) (post : State → Word → State → Prop) : Prop :=
  ∀ hhll s, Runs (i hhll) s fun t => t.pc = s.pc + 3 ∧ post s (addr (hhll.toNat + s.x.toNat)) t

/-- `absy` (R98). -/
def OnAbsy (i : Word → Instr) (post : State → Word → State → Prop) : Prop :=
  ∀ hhll s, Runs (i hhll) s fun t => t.pc = s.pc + 3 ∧ post s (addr (hhll.toNat + s.y.toNat)) t

/-- `izx` (R101). -/
def OnIzx (i : Byte → Instr) (post : State → Word → State → Prop) : Prop :=
  ∀ zz s, Runs (i zz) s fun t => t.pc = s.pc + 2 ∧ post s (addr (pointer s ((zz.toNat + s.x.toNat) % 256))) t

/-- `izy` (R102). -/
def OnIzy (i : Byte → Instr) (post : State → Word → State → Prop) : Prop :=
  ∀ zz s, Runs (i zz) s fun t => t.pc = s.pc + 2 ∧ post s (addr (pointer s zz.toNat + s.y.toNat)) t

/-- A property of the operand's Byte, as a property of its address. -/
def reading (post : State → Byte → State → Prop) (s : State) (ea : Word) (t : State) : Prop := post s (s.read ea) t

/-- The eight reading forms of the accumulator instructions, in the order imm zp zpx abs absx absy izx izy. -/
def OnReading8 (imm zp zpx : Byte → Instr) (abs absx absy : Word → Instr) (izx izy : Byte → Instr)
    (post : State → Byte → State → Prop) : Prop :=
  OnImm imm post ∧ OnZp zp (reading post) ∧ OnZpx zpx (reading post) ∧ OnAbs abs (reading post) ∧
    OnAbsx absx (reading post) ∧ OnAbsy absy (reading post) ∧ OnIzx izx (reading post) ∧ OnIzy izy (reading post)

/-- The four memory forms of the shifts and of INC and DEC, in the order zp zpx abs absx. -/
def OnMemory4 (zp zpx : Byte → Instr) (abs absx : Word → Instr) (post : State → Word → State → Prop) : Prop :=
  OnZp zp post ∧ OnZpx zpx post ∧ OnAbs abs post ∧ OnAbsx absx post

/-- The seven memory forms, in the order zp zpx abs absx absy izx izy. -/
def OnMemory7 (zp zpx : Byte → Instr) (abs absx absy : Word → Instr) (izx izy : Byte → Instr)
    (post : State → Word → State → Prop) : Prop :=
  OnMemory4 zp zpx abs absx post ∧ OnAbsy absy post ∧ OnIzx izx post ∧ OnIzy izy post

/-! ### What groups of instructions do -/

/-- A gets `r`, Z and N follow it, nothing else changes. -/
def AGets (s : State) (r : Byte) (t : State) : Prop :=
  Regs t r s.x s.y s.sp ∧ NZ r t ∧ FlagsKept [.c, .i, .d, .b, .u, .v] s t ∧ MemoryKept s t

/-- X gets `r`, Z and N follow it, nothing else changes. -/
def XGets (s : State) (r : Byte) (t : State) : Prop :=
  Regs t s.a r s.y s.sp ∧ NZ r t ∧ FlagsKept [.c, .i, .d, .b, .u, .v] s t ∧ MemoryKept s t

/-- Y gets `r`, Z and N follow it, nothing else changes. -/
def YGets (s : State) (r : Byte) (t : State) : Prop :=
  Regs t s.a s.x r s.sp ∧ NZ r t ∧ FlagsKept [.c, .i, .d, .b, .u, .v] s t ∧ MemoryKept s t

/-- The one byte at `ea` becomes the value the state before gives; no register and no flag changes. -/
def StoresByte (v : State → Byte) (s : State) (ea : Word) (t : State) : Prop :=
  Stored s t ea (v s) ∧ Regs t s.a s.x s.y s.sp ∧ t.p = s.p

/-- The flags and the result of an addition of `m` to A with the carry-in `c` (41_arithmetic.md R120). -/
def Added (s : State) (m : Byte) (c : Bool) (t : State) : Prop :=
  let sum := s.a.toNat + m.toNat + num c
  t.a.toNat = sum % 256 ∧ t.flag .c = decide (sum > 255) ∧
    t.flag .v = (((s.a ^^^ t.a) &&& (m ^^^ t.a) &&& 0x80) != 0) ∧ NZ t.a t ∧
    t.x = s.x ∧ t.y = s.y ∧ t.sp = s.sp ∧ FlagsKept [.i, .d, .b, .u] s t

/-- The flags and the result of a subtraction of `m` from A with the carry-in `c` (41_arithmetic.md R121). -/
def Subtracted (s : State) (m : Byte) (c : Bool) (t : State) : Prop :=
  let diff : Int := (s.a.toNat : Int) - m.toNat - (1 - num c)
  (t.a.toNat : Int) = diff % 256 ∧ t.flag .c = decide (diff ≥ 0) ∧
    t.flag .v = (((s.a ^^^ m) &&& (s.a ^^^ t.a) &&& 0x80) != 0) ∧ NZ t.a t ∧
    t.x = s.x ∧ t.y = s.y ∧ t.sp = s.sp ∧ FlagsKept [.i, .d, .b, .u] s t

/-- The flags of a compare of `reg` with `m`; no register changes (41_arithmetic.md R122). -/
def Compared (reg : Byte) (s : State) (m : Byte) (t : State) : Prop :=
  t.flag .c = decide (m.toNat ≤ reg.toNat) ∧ NZ (BitVec.ofNat 8 (reg.toNat + 256 - m.toNat)) t ∧
    Regs t s.a s.x s.y s.sp ∧ FlagsKept [.v, .i, .d, .b, .u] s t

/-- The flags of a shift or rotate with the result `r` and the bit shifted out `out`. -/
def ShiftFlags (s : State) (r : Byte) (out : Bool) (t : State) : Prop :=
  t.flag .c = out ∧ NZ r t ∧ FlagsKept [.v, .i, .d, .b, .u] s t

/-- A shift or rotate of A: `res` is the result for a value and a carry-in, `out` the bit shifted out. -/
def ShiftsA (res : Nat → Nat → Nat) (out : Byte → Bool) (s t : State) : Prop :=
  let r := BitVec.ofNat 8 (res s.a.toNat (num (s.flag .c)))
  Regs t r s.x s.y s.sp ∧ ShiftFlags s r (out s.a) t ∧ MemoryKept s t

/-- The same of the byte at `ea`. -/
def ShiftsByte (res : Nat → Nat → Nat) (out : Byte → Bool) (s : State) (ea : Word) (t : State) : Prop :=
  let r := BitVec.ofNat 8 (res (s.read ea).toNat (num (s.flag .c)))
  Stored s t ea r ∧ ShiftFlags s r (out (s.read ea)) t ∧ Regs t s.a s.x s.y s.sp

/-- The byte at `ea` is shifted or rotated, and A becomes `comb` of A and the result (49_undocumented.md R211-R213). -/
def ShiftsThen (res : Nat → Nat → Nat) (out : Byte → Bool) (comb : Byte → Byte → Byte) (s : State) (ea : Word)
    (t : State) : Prop :=
  let r := BitVec.ofNat 8 (res (s.read ea).toNat (num (s.flag .c)))
  Stored s t ea r ∧ Regs t (comb s.a r) s.x s.y s.sp ∧ ShiftFlags s (comb s.a r) (out (s.read ea)) t

/-- The result of ASL on a value (the carry-in is not used, R130). -/
def asl (v _c : Nat) : Nat := 2 * v
/-- The result of LSR on a value (R131). -/
def lsr (v _c : Nat) : Nat := v / 2
/-- The result of ROL on a value and the old carry (R132). -/
def rol (v c : Nat) : Nat := 2 * v + c
/-- The result of ROR on a value and the old carry (R133). -/
def ror (v c : Nat) : Nat := v / 2 + 128 * c
/-- Bit 7. -/
def bit7 (v : Byte) : Bool := v.getLsbD 7
/-- Bit 0. -/
def bit0 (v : Byte) : Bool := v.getLsbD 0

/-- The byte at `ea` becomes `f` of itself; Z and N follow it; nothing else changes (R140, R141). -/
def ChangesByte (f : Nat → Nat) (s : State) (ea : Word) (t : State) : Prop :=
  let r := BitVec.ofNat 8 (f (s.read ea).toNat)
  Stored s t ea r ∧ NZ r t ∧ FlagsKept [.c, .v, .i, .d, .b, .u] s t ∧ Regs t s.a s.x s.y s.sp

/-- A branch: the whole next state, for every displacement and state (44_branches.md R150). -/
def BranchesWhen (i : Byte → Instr) (f : Flag) (b : Bool) : Prop :=
  ∀ dd s, exec (i dd) s =
    .next { s with pc := if s.flag f = b then BitVec.ofInt 16 ((s.pc.toNat : Int) + 2 + dd.toInt) else s.pc + 2 }

/-- One flag becomes `b`; every other flag and everything else is as before (R194-R200). -/
def WritesFlag (f : Flag) (b : Bool) (s t : State) : Prop :=
  t.flag f = b ∧ (∀ g, g ≠ f → t.flag g = s.flag g) ∧ Regs t s.a s.x s.y s.sp ∧ MemoryKept s t

/-- Only PC changes, to `n` bytes further. -/
def OnlyAdvances (i : Instr) (n : Nat) : Prop := ∀ s, exec i s = .next { s with pc := s.pc + BitVec.ofNat 16 n }

/-- The high-byte store of a value at an indexed address (49_undocumented.md R227); the property names the byte
written and where, and says that no other byte changes. -/
def HighStored (base idx : Nat) (val : Byte) (s t : State) : Prop :=
  let ea := (base + idx) % 65536
  let w := val &&& BitVec.ofNat 8 (base / 256 + 1)
  Stored s t (if base / 256 ≠ ea / 256 then addr (w.toNat * 256 + ea % 256) else addr ea) w

/-- The states agree on everything but the flag. -/
def AgreeExcept (f : Flag) (s t : State) : Prop :=
  s.a = t.a ∧ s.x = t.x ∧ s.y = t.y ∧ s.sp = t.sp ∧ s.pc = t.pc ∧ s.mem = t.mem ∧ ∀ g, g ≠ f → s.flag g = t.flag g

/-- The second instruction run after the first, at the first's address. -/
def thenAt (first second : Instr) (s : State) : Result :=
  match exec first s with
  | .next t => exec second (t.setPC s.pc)
  | r => r

/-- On the four forms the documented instructions share, the composition (49_undocumented.md R210). -/
def Composed (u1 u2 : Byte → Instr) (u3 u4 : Word → Instr) (f1 f2 : Byte → Instr) (f3 f4 : Word → Instr)
    (g1 g2 : Byte → Instr) (g3 g4 : Word → Instr) : Prop :=
  ∀ s : State, (∀ zz, exec (u1 zz) s = thenAt (f1 zz) (g1 zz) s) ∧ (∀ zz, exec (u2 zz) s = thenAt (f2 zz) (g2 zz) s) ∧
    (∀ w, exec (u3 w) s = thenAt (f3 w) (g3 w) s) ∧ (∀ w, exec (u4 w) s = thenAt (f4 w) (g4 w) s)

/-! ### Who may write what: lists of tags from the spec's rules about registers and flags -/

/-- The writers of A (R21), shifts and rotates apart. -/
def writersOfA : List Mnemonic :=
  [.lda, .pla, .txa, .tya, .adc, .sbc, .and, .ora, .eor, .slo, .rla, .sre, .rra, .lax, .isc, .anc, .alr, .arr, .xaa,
   .lxa, .las]
/-- The shifts and rotates, which write A in accumulator mode (R21). -/
def shifts : List Mnemonic := [.asl, .lsr, .rol, .ror]
/-- The writers of X (R22). -/
def writersOfX : List Mnemonic := [.ldx, .tax, .tsx, .inx, .dex, .lax, .lxa, .sbx, .las]
/-- The writers of Y (R23). -/
def writersOfY : List Mnemonic := [.ldy, .tay, .iny, .dey]
/-- The writers of SP (R25). -/
def writersOfSP : List Mnemonic := [.pha, .php, .pla, .plp, .jsr, .rts, .brk, .rti, .txs, .tas, .las]
/-- The instructions that write memory: the write, read-modify-write and push classes of 20_memory.md R53. -/
def writersOfMemory : List Mnemonic :=
  [.sta, .stx, .sty, .sax, .sha, .shx, .shy, .tas, .inc, .dec, .slo, .rla, .sre, .rra, .dcp, .isc, .pha, .php, .jsr, .brk]
/-- The writers of each flag (R29-R36). -/
def writersOfFlag : Flag → List Mnemonic
  | .c => [.adc, .sbc, .cmp, .cpx, .cpy, .asl, .lsr, .rol, .ror, .clc, .sec, .plp, .rti, .slo, .rla, .sre, .rra, .dcp,
      .isc, .anc, .alr, .arr, .sbx]
  | .i => [.sei, .cli, .brk, .plp, .rti]
  | .d => [.sed, .cld, .plp, .rti]
  | .b | .u => []
  | .v => [.adc, .sbc, .bit, .clv, .plp, .rti, .rra, .isc, .arr]
  | .z | .n => [.lda, .ldx, .ldy, .tax, .tay, .txa, .tya, .tsx, .pla, .adc, .sbc, .and, .ora, .eor, .cmp, .cpx, .cpy, .inc,
      .dec, .inx, .iny, .dex, .dey, .asl, .lsr, .rol, .ror, .slo, .rla, .sre, .rra, .lax, .dcp, .isc, .anc, .alr, .arr,
      .xaa, .lxa, .sbx, .las, .bit, .plp, .rti]
/-- The instructions that redirect PC (R26). -/
def redirectPC : List Mnemonic :=
  [.bcc, .bcs, .beq, .bne, .bmi, .bpl, .bvc, .bvs, .jmp, .jsr, .rts, .brk, .rti]

end Sys2Proof.Stating

open Sys2Proof Sys2Proof.Machine Sys2Proof.Stating

/-! ## Loads, stores, transfers -/

/-- R180: LDA in its eight forms. -/
def Obligations.LdaLoadsEveryForm : Prop :=
  OnReading8 .ldaImm .ldaZp .ldaZpx .ldaAbs .ldaAbsx .ldaAbsy .ldaIzx .ldaIzy AGets

/-- R181, R182: LDX in its five forms (indexed by Y), LDY in its five forms (indexed by X). -/
def Obligations.LdxLdyLoadEveryForm : Prop :=
  (OnImm .ldxImm XGets ∧ OnZp .ldxZp (reading XGets) ∧ OnZpy .ldxZpy (reading XGets) ∧
    OnAbs .ldxAbs (reading XGets) ∧ OnAbsy .ldxAbsy (reading XGets)) ∧
  (OnImm .ldyImm YGets ∧ OnZp .ldyZp (reading YGets) ∧ OnZpx .ldyZpx (reading YGets) ∧
    OnAbs .ldyAbs (reading YGets) ∧ OnAbsx .ldyAbsx (reading YGets))

/-- R183-R185: STA in its seven forms, STX and STY in their three. -/
def Obligations.StoresWriteExactlyOneByte : Prop :=
  OnMemory7 .staZp .staZpx .staAbs .staAbsx .staAbsy .staIzx .staIzy (StoresByte State.a) ∧
  (OnZp .stxZp (StoresByte State.x) ∧ OnZpy .stxZpy (StoresByte State.x) ∧ OnAbs .stxAbs (StoresByte State.x)) ∧
  (OnZp .styZp (StoresByte State.y) ∧ OnZpx .styZpx (StoresByte State.y) ∧ OnAbs .styAbs (StoresByte State.y))

/-- R186-R189, R167, R168: the six transfers; TXS writes no flag. -/
def Obligations.TransfersMoveOneRegister : Prop :=
  OnImp .tax (fun s t => XGets s s.a t) ∧ OnImp .tay (fun s t => YGets s s.a t) ∧
  OnImp .txa (fun s t => AGets s s.x t) ∧ OnImp .tya (fun s t => AGets s s.y t) ∧
  OnImp .tsx (fun s t => XGets s s.sp t) ∧
  OnImp .txs (fun s t => Regs t s.a s.x s.y s.x ∧ t.p = s.p ∧ MemoryKept s t)

/-! ## Arithmetic and compare -/

/-- R120: ADC in its eight forms. -/
def Obligations.AdcAddsEveryForm : Prop :=
  OnReading8 .adcImm .adcZp .adcZpx .adcAbs .adcAbsx .adcAbsy .adcIzx .adcIzy
    fun s m t => Added s m (s.flag .c) t ∧ MemoryKept s t

/-- R121, R225: SBC in its eight forms, and the undocumented copy 0xEB. -/
def Obligations.SbcSubtractsEveryForm : Prop :=
  OnReading8 .sbcImm .sbcZp .sbcZpx .sbcAbs .sbcAbsx .sbcAbsy .sbcIzx .sbcIzy
    (fun s m t => Subtracted s m (s.flag .c) t ∧ MemoryKept s t) ∧
  OnImm .sbcImmEB fun s m t => Subtracted s m (s.flag .c) t ∧ MemoryKept s t

/-- R121: SBC is ADC with `m` replaced by `~m`. -/
def Obligations.SbcIsAdcOfComplement : Prop :=
  ∀ ii s, exec (.sbcImm ii) s = exec (.adcImm (~~~ii)) s

/-- R120: V is the signed overflow of the addition. -/
def Obligations.AdcOverflowIsSignedOverflow : Prop :=
  ∀ ii s, Runs (.adcImm ii) s fun t =>
    let sum : Int := s.a.toInt + ii.toInt + num (s.flag .c)
    t.flag .v = decide (sum < -128 ∨ 127 < sum)

/-- R122-R124: CMP in its eight forms, CPX and CPY in their three. -/
def Obligations.ComparesWriteOnlyCZN : Prop :=
  OnReading8 .cmpImm .cmpZp .cmpZpx .cmpAbs .cmpAbsx .cmpAbsy .cmpIzx .cmpIzy
    (fun s m t => Compared s.a s m t ∧ MemoryKept s t) ∧
  (OnImm .cpxImm (fun s m t => Compared s.x s m t ∧ MemoryKept s t) ∧
    OnZp .cpxZp (reading fun s m t => Compared s.x s m t ∧ MemoryKept s t) ∧
    OnAbs .cpxAbs (reading fun s m t => Compared s.x s m t ∧ MemoryKept s t)) ∧
  (OnImm .cpyImm (fun s m t => Compared s.y s m t ∧ MemoryKept s t) ∧
    OnZp .cpyZp (reading fun s m t => Compared s.y s m t ∧ MemoryKept s t) ∧
    OnAbs .cpyAbs (reading fun s m t => Compared s.y s m t ∧ MemoryKept s t))

/-! ## Shifts, increments -/

/-- R130, R131: ASL and LSR on A and in the four memory forms. -/
def Obligations.AslLsrShiftByOne : Prop :=
  OnImp .aslAcc (ShiftsA asl bit7) ∧ OnMemory4 .aslZp .aslZpx .aslAbs .aslAbsx (ShiftsByte asl bit7) ∧
  OnImp .lsrAcc (ShiftsA lsr bit0) ∧ OnMemory4 .lsrZp .lsrZpx .lsrAbs .lsrAbsx (ShiftsByte lsr bit0)

/-- R132, R133: ROL and ROR on A and in the four memory forms; the old carry enters the vacated bit. -/
def Obligations.RolRorRotateThroughCarry : Prop :=
  OnImp .rolAcc (ShiftsA rol bit7) ∧ OnMemory4 .rolZp .rolZpx .rolAbs .rolAbsx (ShiftsByte rol bit7) ∧
  OnImp .rorAcc (ShiftsA ror bit0) ∧ OnMemory4 .rorZp .rorZpx .rorAbs .rorAbsx (ShiftsByte ror bit0)

/-- R140, R141: INC and DEC in their four forms. -/
def Obligations.IncDecChangeOneByte : Prop :=
  OnMemory4 .incZp .incZpx .incAbs .incAbsx (ChangesByte fun v => v + 1) ∧
  OnMemory4 .decZp .decZpx .decAbs .decAbsx (ChangesByte fun v => v + 255)

/-- R142-R145: INX, INY, DEX, DEY. -/
def Obligations.IndexRegistersCountModulo256 : Prop :=
  OnImp .inx (fun s t => XGets s (BitVec.ofNat 8 (s.x.toNat + 1)) t) ∧
  OnImp .iny (fun s t => YGets s (BitVec.ofNat 8 (s.y.toNat + 1)) t) ∧
  OnImp .dex (fun s t => XGets s (BitVec.ofNat 8 (s.x.toNat + 255)) t) ∧
  OnImp .dey (fun s t => YGets s (BitVec.ofNat 8 (s.y.toNat + 255)) t)

/-! ## Branches -/

/-- R150-R158: the eight branches. -/
def Obligations.BranchesRedirectOnlyPC : Prop :=
  BranchesWhen .bcc .c false ∧ BranchesWhen .bcs .c true ∧ BranchesWhen .beq .z true ∧ BranchesWhen .bne .z false ∧
  BranchesWhen .bmi .n true ∧ BranchesWhen .bpl .n false ∧ BranchesWhen .bvc .v false ∧ BranchesWhen .bvs .v true

/-! ## Stack -/

/-- R163, R164: PHA pushes A, PHP pushes P with bits 4 and 5 set; no flag changes. -/
def Obligations.PhaPhpPushOneByte : Prop :=
  OnImp .pha (fun s t => Stored s t (stackByte s.sp) s.a ∧ Regs t s.a s.x s.y (s.sp - 1) ∧ t.p = s.p) ∧
  OnImp .php (fun s t => Stored s t (stackByte s.sp) (s.p ||| 0x30) ∧ Regs t s.a s.x s.y (s.sp - 1) ∧ t.p = s.p)

/-- R165, R166: PLA pulls A with Z and N; PLP pulls every flag but B and U. -/
def Obligations.PlaPlpPullOneByte : Prop :=
  OnImp .pla (fun s t =>
    let v := s.read (stackByte (s.sp + 1))
    Regs t v s.x s.y (s.sp + 1) ∧ NZ v t ∧ FlagsKept [.c, .v, .i, .d, .b, .u] s t ∧ MemoryKept s t) ∧
  OnImp .plp (fun s t =>
    let v := s.read (stackByte (s.sp + 1))
    Regs t s.a s.x s.y (s.sp + 1) ∧ (∀ f ∈ [Flag.n, .v, .d, .i, .z, .c], t.flag f = getFlag v f) ∧
      FlagsKept [.b, .u] s t ∧ MemoryKept s t)

/-- R162: after `Push16(w)` the two bytes lie as stated, and `Pop16()` returns `w` and restores SP, for every SP. -/
def Obligations.WordPushPopRoundTrip : Prop :=
  ∀ (s : State) (w : Word),
    (s.push16 w).read (stackByte s.sp) = BitVec.ofNat 8 (w.toNat / 256) ∧
    (s.push16 w).read (stackByte (s.sp - 1)) = BitVec.ofNat 8 w.toNat ∧
    (s.push16 w).sp = s.sp - 2 ∧ (s.push16 w).top16 = w ∧ (s.push16 w).drop16.sp = s.sp

/-! ## Jumps, calls, the software interrupt -/

/-- R170, R171: JMP absolute and indirect, the latter with the page-boundary bug. -/
def Obligations.JmpSetsOnlyPC : Prop :=
  (∀ hhll s, exec (.jmpAbs hhll) s = .next { s with pc := hhll }) ∧
  (∀ hhll s, Runs (.jmpInd hhll) s fun t =>
    t = { s with pc := t.pc } ∧
    t.pc.toNat = (s.read (addr (hhll.toNat / 256 * 256 + (hhll.toNat + 1) % 256))).toNat * 256 + (s.read hhll).toNat)

/-- R172: JSR pushes the address of its last byte and jumps. -/
def Obligations.JsrPushesReturnAddress : Prop :=
  ∀ hhll s, Runs (.jsrAbs hhll) s fun t =>
    t.pc = hhll ∧ t.read (stackByte s.sp) = BitVec.ofNat 8 ((s.pc + 2).toNat / 256) ∧
    t.read (stackByte (s.sp - 1)) = BitVec.ofNat 8 (s.pc + 2).toNat ∧
    (∀ a : Word, a ≠ stackByte s.sp → a ≠ stackByte (s.sp - 1) → t.read a = s.read a) ∧
    Regs t s.a s.x s.y (s.sp - 2) ∧ t.p = s.p

/-- R173: RTS pops a Word, low byte first, and adds one. -/
def Obligations.RtsReturnsPastPoppedWord : Prop :=
  ∀ s, Runs .rts s fun t =>
    t.pc = addr ((s.read (stackByte (s.sp + 2))).toNat * 256 + (s.read (stackByte (s.sp + 1))).toNat + 1) ∧
    Regs t s.a s.x s.y (s.sp + 2) ∧ t.p = s.p ∧ MemoryKept s t

/-- R173: RTS right after a JSR resumes after the JSR with SP restored, for every SP. -/
def Obligations.RtsAfterJsrResumes : Prop :=
  ∀ hhll s, Runs (.jsrAbs hhll) s fun t => Runs .rts t fun u =>
    u.pc = s.pc + 3 ∧ Regs u s.a s.x s.y s.sp ∧ u.p = s.p

/-- R175: BRK pushes pc0 + 2 and P with bits 4 and 5 set, sets I, and goes to the vector; the signature is ignored. -/
def Obligations.BrkEntersHandler : Prop :=
  ∀ ss s, Runs (.brk ss) s fun t =>
    t.read (stackByte s.sp) = BitVec.ofNat 8 ((s.pc + 2).toNat / 256) ∧
    t.read (stackByte (s.sp - 1)) = BitVec.ofNat 8 (s.pc + 2).toNat ∧
    t.read (stackByte (s.sp - 2)) = s.p ||| 0x30 ∧
    (∀ a : Word, a ≠ stackByte s.sp → a ≠ stackByte (s.sp - 1) → a ≠ stackByte (s.sp - 2) → t.read a = s.read a) ∧
    Regs t s.a s.x s.y (s.sp - 3) ∧ t.flag .i = true ∧ (∀ f, f ≠ .i → t.flag f = s.flag f) ∧
    t.pc = addr ((s.read 0xFFFF).toNat * 256 + (s.read 0xFFFE).toNat)

/-- R176: RTI pulls P (B and U kept), then PC with no adjustment. -/
def Obligations.RtiRestoresStatusAndPC : Prop :=
  ∀ s, Runs .rti s fun t =>
    (∀ f ∈ [Flag.n, .v, .d, .i, .z, .c], t.flag f = getFlag (s.read (stackByte (s.sp + 1))) f) ∧
    FlagsKept [.b, .u] s t ∧
    t.pc = addr ((s.read (stackByte (s.sp + 3))).toNat * 256 + (s.read (stackByte (s.sp + 2))).toNat) ∧
    Regs t s.a s.x s.y (s.sp + 3) ∧ MemoryKept s t

/-- R176: RTI right after a BRK returns to pc0 + 2 with P and every register as before the BRK. -/
def Obligations.RtiAfterBrkResumes : Prop :=
  ∀ ss s, Runs (.brk ss) s fun t => Runs .rti t fun u =>
    u.pc = s.pc + 2 ∧ u.p = s.p ∧ Regs u s.a s.x s.y s.sp

/-! ## Logic, flags, NOP -/

/-- R190-R192: AND, ORA, EOR in their eight forms. -/
def Obligations.LogicCombinesIntoA : Prop :=
  OnReading8 .andImm .andZp .andZpx .andAbs .andAbsx .andAbsy .andIzx .andIzy (fun s m t => AGets s (s.a &&& m) t) ∧
  OnReading8 .oraImm .oraZp .oraZpx .oraAbs .oraAbsx .oraAbsy .oraIzx .oraIzy (fun s m t => AGets s (s.a ||| m) t) ∧
  OnReading8 .eorImm .eorZp .eorZpx .eorAbs .eorAbsx .eorAbsy .eorIzx .eorIzy (fun s m t => AGets s (s.a ^^^ m) t)

/-- R193: BIT in its two forms. -/
def Obligations.BitTestsWithoutWriting : Prop :=
  let post := fun (s : State) (m : Byte) (t : State) =>
    t.flag .z = decide (s.a &&& m = 0) ∧ t.flag .n = m.getLsbD 7 ∧ t.flag .v = m.getLsbD 6 ∧
      FlagsKept [.c, .i, .d, .b, .u] s t ∧ Regs t s.a s.x s.y s.sp ∧ MemoryKept s t
  OnZp .bitZp (reading post) ∧ OnAbs .bitAbs (reading post)

/-- R194-R200: the seven flag instructions. -/
def Obligations.FlagInstructionsWriteOneFlag : Prop :=
  OnImp .clc (WritesFlag .c false) ∧ OnImp .sec (WritesFlag .c true) ∧ OnImp .cli (WritesFlag .i false) ∧
  OnImp .sei (WritesFlag .i true) ∧ OnImp .cld (WritesFlag .d false) ∧ OnImp .sed (WritesFlag .d true) ∧
  OnImp .clv (WritesFlag .v false)

/-- R201, R232: the documented NOP and the 27 undocumented ones only move PC, by the length of their format. -/
def Obligations.NopsOnlyAdvancePC : Prop :=
  (∀ i ∈ [Instr.nop, .nopImp1A, .nopImp3A, .nopImp5A, .nopImp7A, .nopImpDA, .nopImpFA], OnlyAdvances i 1) ∧
  (∀ ii, ∀ i ∈ [Instr.nopImm80 ii, .nopImm82 ii, .nopImm89 ii, .nopImmC2 ii, .nopImmE2 ii], OnlyAdvances i 2) ∧
  (∀ zz, ∀ i ∈ [Instr.nopZp04 zz, .nopZp44 zz, .nopZp64 zz, .nopZpx14 zz, .nopZpx34 zz, .nopZpx54 zz, .nopZpx74 zz,
    .nopZpxD4 zz, .nopZpxF4 zz], OnlyAdvances i 2) ∧
  (∀ w, ∀ i ∈ [Instr.nopAbs0C w, .nopAbsx1C w, .nopAbsx3C w, .nopAbsx5C w, .nopAbsx7C w, .nopAbsxDC w, .nopAbsxFC w],
    OnlyAdvances i 3)

/-! ## Undocumented opcodes -/

/-- R211-R213: SLO, RLA, SRE in their seven forms. -/
def Obligations.SloRlaSreShiftThenCombine : Prop :=
  OnMemory7 .sloZp .sloZpx .sloAbs .sloAbsx .sloAbsy .sloIzx .sloIzy (ShiftsThen asl bit7 fun a r => a ||| r) ∧
  OnMemory7 .rlaZp .rlaZpx .rlaAbs .rlaAbsx .rlaAbsy .rlaIzx .rlaIzy (ShiftsThen rol bit7 fun a r => a &&& r) ∧
  OnMemory7 .sreZp .sreZpx .sreAbs .sreAbsx .sreAbsy .sreIzx .sreIzy (ShiftsThen lsr bit0 fun a r => a ^^^ r)

/-- R214: RRA in its seven forms; the bit rotated out is the carry-in of the addition. -/
def Obligations.RraRotatesThenAdds : Prop :=
  OnMemory7 .rraZp .rraZpx .rraAbs .rraAbsx .rraAbsy .rraIzx .rraIzy fun s ea t =>
    let r := BitVec.ofNat 8 (ror (s.read ea).toNat (num (s.flag .c)))
    Stored s t ea r ∧ Added s r (bit0 (s.read ea)) t

/-- R217: DCP in its seven forms. -/
def Obligations.DcpDecrementsThenCompares : Prop :=
  OnMemory7 .dcpZp .dcpZpx .dcpAbs .dcpAbsx .dcpAbsy .dcpIzx .dcpIzy fun s ea t =>
    let r := BitVec.ofNat 8 ((s.read ea).toNat + 255)
    Stored s t ea r ∧ Compared s.a s r t

/-- R218: ISC in its seven forms. -/
def Obligations.IscIncrementsThenSubtracts : Prop :=
  OnMemory7 .iscZp .iscZpx .iscAbs .iscAbsx .iscAbsy .iscIzx .iscIzy fun s ea t =>
    let r := BitVec.ofNat 8 ((s.read ea).toNat + 1)
    Stored s t ea r ∧ Subtracted s r (s.flag .c) t

/-- R210: the read-modify-write compositions are the documented instructions one after the other. -/
def Obligations.UndocumentedAreCompositions : Prop :=
  Composed .sloZp .sloZpx .sloAbs .sloAbsx .aslZp .aslZpx .aslAbs .aslAbsx .oraZp .oraZpx .oraAbs .oraAbsx ∧
  Composed .rlaZp .rlaZpx .rlaAbs .rlaAbsx .rolZp .rolZpx .rolAbs .rolAbsx .andZp .andZpx .andAbs .andAbsx ∧
  Composed .sreZp .sreZpx .sreAbs .sreAbsx .lsrZp .lsrZpx .lsrAbs .lsrAbsx .eorZp .eorZpx .eorAbs .eorAbsx ∧
  Composed .rraZp .rraZpx .rraAbs .rraAbsx .rorZp .rorZpx .rorAbs .rorAbsx .adcZp .adcZpx .adcAbs .adcAbsx ∧
  Composed .dcpZp .dcpZpx .dcpAbs .dcpAbsx .decZp .decZpx .decAbs .decAbsx .cmpZp .cmpZpx .cmpAbs .cmpAbsx ∧
  Composed .iscZp .iscZpx .iscAbs .iscAbsx .incZp .incZpx .incAbs .incAbsx .sbcZp .sbcZpx .sbcAbs .sbcAbsx

/-- R215, R216: SAX in its four forms, LAX in its six. -/
def Obligations.SaxStoresLaxLoads : Prop :=
  let sax := StoresByte fun s => s.a &&& s.x
  let lax := reading fun s v t =>
    Regs t v v s.y s.sp ∧ NZ v t ∧ FlagsKept [.c, .i, .d, .b, .u, .v] s t ∧ MemoryKept s t
  (OnZp .saxZp sax ∧ OnZpy .saxZpy sax ∧ OnAbs .saxAbs sax ∧ OnIzx .saxIzx sax) ∧
  (OnZp .laxZp lax ∧ OnZpy .laxZpy lax ∧ OnAbs .laxAbs lax ∧ OnAbsy .laxAbsy lax ∧ OnIzx .laxIzx lax ∧ OnIzy .laxIzy lax)

/-- R219: ANC, both opcodes. -/
def Obligations.AncCopiesBitSevenToCarry : Prop :=
  ∀ i ∈ [Instr.ancImm0B, Instr.ancImm2B], OnImm i fun s ii t =>
    Regs t (s.a &&& ii) s.x s.y s.sp ∧ ShiftFlags s (s.a &&& ii) (bit7 (s.a &&& ii)) t ∧ MemoryKept s t

/-- R220, R221: ALR, and ARR with its own C and V. -/
def Obligations.AlrArrShiftTheAnd : Prop :=
  OnImm .alrImm (fun s ii t =>
    let u := s.a &&& ii
    let r := BitVec.ofNat 8 (lsr u.toNat 0)
    Regs t r s.x s.y s.sp ∧ ShiftFlags s r (bit0 u) t ∧ MemoryKept s t) ∧
  OnImm .arrImm (fun s ii t =>
    let r := BitVec.ofNat 8 (ror (s.a &&& ii).toNat (num (s.flag .c)))
    Regs t r s.x s.y s.sp ∧ NZ r t ∧ t.flag .c = r.getLsbD 6 ∧ t.flag .v = (r.getLsbD 6 ^^ r.getLsbD 5) ∧
      FlagsKept [.i, .d, .b, .u] s t ∧ MemoryKept s t)

/-- R222, R223: XAA and LXA with the constant 0xFF; A's old value does not matter. -/
def Obligations.XaaLxaIgnoreOldA : Prop :=
  OnImm .xaaImm (fun s ii t => AGets s (s.x &&& ii) t) ∧
  OnImm .lxaImm (fun s ii t =>
    Regs t ii ii s.y s.sp ∧ NZ ii t ∧ FlagsKept [.c, .i, .d, .b, .u, .v] s t ∧ MemoryKept s t)

/-- R224: SBX; the carry-in is ignored and V is not changed. -/
def Obligations.SbxSubtractsFromAAndX : Prop :=
  OnImm .sbxImm fun s ii t =>
    let u := s.a &&& s.x
    let r := BitVec.ofNat 8 (u.toNat + 256 - ii.toNat)
    Regs t s.a r s.y s.sp ∧ t.flag .c = decide (ii.toNat ≤ u.toNat) ∧ NZ r t ∧
      FlagsKept [.v, .i, .d, .b, .u] s t ∧ MemoryKept s t

/-- R226: LAS. -/
def Obligations.LasLoadsThreeRegisters : Prop :=
  OnAbsy .lasAbsy (reading fun s m t =>
    let v := m &&& s.sp
    Regs t v v s.y v ∧ NZ v t ∧ FlagsKept [.c, .i, .d, .b, .u, .v] s t ∧ MemoryKept s t)

/-- R227-R231: SHA in its two forms, SHX, SHY, TAS. -/
def Obligations.HighByteStores : Prop :=
  (∀ hhll s, Runs (.shaAbsy hhll) s fun t => t.pc = s.pc + 3 ∧
    HighStored hhll.toNat s.y.toNat (s.a &&& s.x) s t ∧ Regs t s.a s.x s.y s.sp ∧ t.p = s.p) ∧
  (∀ zz s, Runs (.shaIzy zz) s fun t => t.pc = s.pc + 2 ∧
    HighStored (pointer s zz.toNat) s.y.toNat (s.a &&& s.x) s t ∧ Regs t s.a s.x s.y s.sp ∧ t.p = s.p) ∧
  (∀ hhll s, Runs (.shxAbsy hhll) s fun t => t.pc = s.pc + 3 ∧
    HighStored hhll.toNat s.y.toNat s.x s t ∧ Regs t s.a s.x s.y s.sp ∧ t.p = s.p) ∧
  (∀ hhll s, Runs (.shyAbsx hhll) s fun t => t.pc = s.pc + 3 ∧
    HighStored hhll.toNat s.x.toNat s.y s t ∧ Regs t s.a s.x s.y s.sp ∧ t.p = s.p) ∧
  (∀ hhll s, Runs (.tasAbsy hhll) s fun t => t.pc = s.pc + 3 ∧
    HighStored hhll.toNat s.y.toNat (s.a &&& s.x) s t ∧ Regs t s.a s.x s.y (s.a &&& s.x) ∧ t.p = s.p)

/-- R233: the twelve JAM opcodes stop, in every state, and the host sees the state unchanged. -/
def Obligations.JamStopsUnchanged : Prop :=
  (∀ i ∈ [Instr.jam02, .jam12, .jam22, .jam32, .jam42, .jam52, .jam62, .jam72, .jam92, .jamB2, .jamD2, .jamF2],
    ∀ s, exec i s = .fault .stopped) ∧
  (∀ s : State, s.read s.pc ∈ [(0x02 : Byte), 0x12, 0x22, 0x32, 0x42, 0x52, 0x62, 0x72, 0x92, 0xB2, 0xD2, 0xF2] →
    s.hostStep = (.stopped, s) ∧ s.hostStep.2.hostStep = (.stopped, s))

/-! ## Encoding -/

/-- R72, R75: a few words written out from the opcode map decode to the instructions they stand for. The last two clauses,
that a list of bytes which ends too early is rejected as truncated, are the model's choice (log entry 11). -/
def Obligations.SpecWordsDecode : Prop :=
  decode [0b01101001, 0x10] = .ok (.adcImm 0x10, []) ∧
  decode [0b10111101, 0xF0, 0x12] = .ok (.ldaAbsx 0x12F0, []) ∧
  decode [0b01101100, 0xFF, 0x10] = .ok (.jmpInd 0x10FF, []) ∧
  decode [0b10010110, 0xFF] = .ok (.stxZpy 0xFF, []) ∧
  decode [0b00000000, 0xEA] = .ok (.brk 0xEA, []) ∧
  decode [0b11010000, 0xF8] = .ok (.bne 0xF8, []) ∧
  decode [0b10011100, 0x00, 0x04] = .ok (.shyAbsx 0x0400, []) ∧
  decode [0b00000010] = .ok (.jam02, []) ∧
  decode [] = .error .truncated ∧ decode [0b10101101, 0x34] = .error .truncated

/-- Decoding the encoding of any instruction, whatever follows it, gives the instruction back and leaves the rest. -/
def Obligations.DecodeOfEncode : Prop :=
  ∀ (i : Instr) (rest : List Byte), decode (encode i ++ rest) = .ok (i, rest)

/-- R70: the table is total: any opcode byte with two more bytes decodes, and what was read is the encoding of
the instruction answered. -/
def Obligations.EveryOpcodeDecodes : Prop :=
  ∀ (op b1 b2 : Byte) (rest : List Byte), ∃ (i : Instr) (left : List Byte),
    decode (op :: b1 :: b2 :: rest) = .ok (i, left) ∧ op :: b1 :: b2 :: rest = encode i ++ left

/-- R75: at every instruction's opcode the opcode map has its mnemonic and its format. -/
def Obligations.EveryInstructionIsInTheMap : Prop :=
  ∀ i : Instr, i.wellFormed = true ∧ tableEntry i.opcode = some (i.mnemonic, i.operand.format)

/-- R90: when the bytes from PC on decode to an instruction, the step is that instruction's meaning at that state. -/
def Obligations.StepRunsDecodedInstruction : Prop :=
  ∀ (s : State) (i : Instr) (left : List Byte), decode (s.mem.bytesFrom s.pc 3) = .ok (i, left) → step s = exec i s

/-! ## Reset and memory -/

/-- R260-R262: `reset()` from any state. -/
def Obligations.HostResetState : Prop :=
  ∀ s : State, Regs s.hostReset 0x00 0x00 0x00 0xFF ∧ s.hostReset.p = 0x00 ∧
    s.hostReset.pc = addr ((s.read 0xFFFD).toNat * 256 + (s.read 0xFFFC).toNat) ∧ MemoryKept s s.hostReset

/-- R264, R38: the state after construction is a reset of all-zero memory. The first clause, the invariant, is about the
canonical form of memory, which is the model's choice of representation (log entry 4). -/
def Obligations.ConstructedStateMeetsInvariant : Prop :=
  Inv State.reset ∧ State.reset.hostReset = State.reset ∧ (∀ a : Word, State.reset.read a = 0x00)

/-- R60: a read returns the byte last written there, and a write changes no other address; whatever the memory. -/
def Obligations.ReadReturnsLastWrite : Prop :=
  ∀ (m : Memory) (a b : Word) (v : Byte), (m.write a v).read a = v ∧ (b ≠ a → (m.write a v).read b = m.read b)

/-- Canonical memories that read alike everywhere are the same data; the canonical form is the model's choice of
representation (log entry 4). -/
def Obligations.CanonicalMemoryIsUnique : Prop :=
  ∀ m n : Memory, m.wf → n.wf → (∀ a : Word, m.read a = n.read a) → m = n

/-- R28: setting or clearing one flag gives it that value and affects no other. -/
def Obligations.FlagsAreIndependent : Prop :=
  ∀ (p : Byte) (f g : Flag) (b : Bool), getFlag (setFlag p f b) g = if g = f then b else getFlag p g

/-! ## The whole machine -/

/-- Every step keeps memory in its canonical form, from every state that has it; the form is the model's choice of
representation (log entry 4). -/
def Obligations.StepKeepsCanonicalMemory : Prop :=
  ∀ s t : State, Inv s → step s = .next t → Inv t

/-- R33, R34: no instruction writes the stored B or U. -/
def Obligations.StepKeepsBreakAndUnused : Prop :=
  ∀ s t : State, step s = .next t → t.flag .b = s.flag .b ∧ t.flag .u = s.flag .u

/-- R240, R241: no step ends in an Error or a refusal. -/
def Obligations.StepNeverErrs : Prop :=
  ∀ s : State, StepSafe s

/-- R108: a step returns Stopped exactly when a JAM opcode stands at PC. -/
def Obligations.StoppedExactlyAtJam : Prop :=
  ∀ s : State, step s = .fault .stopped ↔ AtJam s

/-- R21-R25: each register changes only under the instructions listed as its writers. -/
def Obligations.RegistersChangeOnlyByWriters : Prop :=
  ∀ (i : Instr) (s t : State), exec i s = .next t →
    (i.mnemonic ∉ writersOfA → (i.mnemonic ∈ shifts → i.operand ≠ .acc) → t.a = s.a) ∧
    (i.mnemonic ∉ writersOfX → t.x = s.x) ∧ (i.mnemonic ∉ writersOfY → t.y = s.y) ∧
    (i.mnemonic ∉ writersOfSP → t.sp = s.sp)

/-- R29-R36: each flag changes only under the instructions listed as its writers. -/
def Obligations.FlagsChangeOnlyByWriters : Prop :=
  ∀ (i : Instr) (s t : State) (f : Flag), exec i s = .next t → i.mnemonic ∉ writersOfFlag f → t.flag f = s.flag f

/-- R53: an instruction outside the write, read-modify-write and push classes changes no byte of memory, and a shift
or rotate of the accumulator changes none. -/
def Obligations.MemoryChangesOnlyByWriters : Prop :=
  ∀ (i : Instr) (s t : State), exec i s = .next t → i.mnemonic ∉ writersOfMemory →
    (i.mnemonic ∈ shifts → i.operand = .acc) → MemoryKept s t

/-- R104: an instruction that does not redirect PC leaves it at pc0 plus its length. -/
def Obligations.PCAdvancesByLength : Prop :=
  ∀ (i : Instr) (s t : State), exec i s = .next t → i.mnemonic ∉ redirectPC → t.pc = s.pc + BitVec.ofNat 16 i.length

/-- R31, R32: D and I steer nothing: outside PHP and BRK, which push them, two states that differ only in the flag have
the same outcome, in next states that differ at most in it. -/
def Obligations.DecimalAndInterruptFlagsSteerNothing : Prop :=
  ∀ f ∈ [Flag.d, Flag.i], ∀ (i : Instr) (s s' : State), i.mnemonic ≠ .php → i.mnemonic ≠ .brk → AgreeExcept f s s' →
    (∃ t t', exec i s = .next t ∧ exec i s' = .next t' ∧ AgreeExcept f t t') ∨
    (exec i s = .fault .stopped ∧ exec i s' = .fault .stopped)
end

