-- ==== Sys2Proof/Laws/Decode.lean ====
section
/-! SUPPORT. What the decoder does with the bytes of an instruction of one, two and three bytes, said once, and the laws
of joining and splitting a Word. -/

namespace Sys2Proof

/-- The bits of a joined Word (00_scope.md R8). -/
theorem getLsbD_joinBytes (h l : Byte) (k : Nat) :
    (joinBytes h l).getLsbD k = if k < 8 then l.getLsbD k else h.getLsbD (k - 8) := by
  show (h ++ l : BitVec (8 + 8)).getLsbD k = _
  rw [BitVec.getLsbD_append]

/-- The parts of a joined Word (R8). -/
@[simp] theorem hiByte_joinBytes (h l : Byte) : hiByte (joinBytes h l) = h := by
  apply BitVec.eq_of_getLsbD_eq
  intro k hk
  simp [hiByte, getLsbD_joinBytes, hk]

@[simp] theorem loByte_joinBytes (h l : Byte) : loByte (joinBytes h l) = l := by
  apply BitVec.eq_of_getLsbD_eq
  intro k hk
  simp [loByte, getLsbD_joinBytes, hk]

/-- A Word is its two parts joined (R8). -/
@[simp] theorem joinBytes_hi_lo (w : Word) : joinBytes (hiByte w) (loByte w) = w := by
  apply BitVec.eq_of_getLsbD_eq
  intro k hk
  by_cases h : k < 8
  · simp [hiByte, loByte, getLsbD_joinBytes, h]
  · simp [hiByte, loByte, getLsbD_joinBytes, h, show k - 8 < 8 by omega, show 8 + (k - 8) = k by omega]

/-- An instruction of one byte (30_encoding.md R71). -/
theorem decode_one {op : Byte} {i : Instr} (h : decodeRow op = some (.one i)) (rest : List Byte) :
    decode (op :: rest) = .ok (i, rest) := by
  simp [decode, h]

/-- An instruction of two bytes. -/
theorem decode_two {op : Byte} {f : Byte → Instr} (h : decodeRow op = some (.two f)) (b : Byte) (rest : List Byte) :
    decode (op :: b :: rest) = .ok (f b, rest) := by
  simp [decode, h]

/-- An instruction of three bytes, the low byte of its Word first (R72). -/
theorem decode_three {op : Byte} {f : Word → Instr} (h : decodeRow op = some (.three f)) (ll hh : Byte)
    (rest : List Byte) : decode (op :: ll :: hh :: rest) = .ok (f (joinBytes hh ll), rest) := by
  simp [decode, h]

/-- Every row and column of the opcode map has a decoder row (R70). -/
theorem decodeTable_total :
    ∀ r < 16, ∀ c < 16, (decodeTable[r]?.bind fun row => row[c]?).isSome = true := by decide

/-- Every opcode has a row (R70). -/
theorem decodeRow_isSome (op : Byte) : (decodeRow op).isSome = true :=
  decodeTable_total (op.toNat / 16) (by have := op.isLt; omega) (op.toNat % 16) (by omega)

end Sys2Proof
end

