-- ==== Sys2Proof/Laws/Flags.lean ====
section
/-! SUPPORT. The laws of the flags (10_state.md R28): writing one gives it the value and touches no other; what the status
byte holds after PHP's, BRK's, PLP's and RTI's masks. -/

namespace Sys2Proof.Machine

@[simp] theorem getFlag_mask (f g : Flag) : getFlag f.mask g = decide (g = f) := by
  cases f <;> cases g <;> decide

theorem getFlag_or (p q : Byte) (f : Flag) : getFlag (p ||| q) f = (getFlag p f || getFlag q f) :=
  BitVec.getLsbD_or

theorem getFlag_and (p q : Byte) (f : Flag) : getFlag (p &&& q) f = (getFlag p f && getFlag q f) :=
  BitVec.getLsbD_and

theorem getFlag_not (p : Byte) (f : Flag) : getFlag (~~~p) f = !getFlag p f := by
  have h : f.bit < 8 := by cases f <;> decide
  simp [getFlag, h]

/-- A written flag reads as written. -/
@[simp] theorem getFlag_setFlag_self (p : Byte) (f : Flag) (b : Bool) : getFlag (setFlag p f b) f = b := by
  cases b <;> simp [setFlag, getFlag_or, getFlag_and, getFlag_not]

/-- Writing a flag leaves every other flag alone. -/
theorem getFlag_setFlag_of_ne (p : Byte) {f g : Flag} (b : Bool) (h : g ≠ f) :
    getFlag (setFlag p f b) g = getFlag p g := by
  cases b <;> simp [setFlag, getFlag_or, getFlag_and, getFlag_not, h]

/-- Two status bytes with the same flags are the same byte. -/
theorem eq_of_getFlag_eq {p q : Byte} (h : ∀ f, getFlag p f = getFlag q f) : p = q := by
  refine BitVec.eq_of_getLsbD_eq fun k hk => ?_
  have hs : ∃ f : Flag, f.bit = k := by
    match k, hk with
    | 0, _ => exact ⟨.c, rfl⟩
    | 1, _ => exact ⟨.z, rfl⟩
    | 2, _ => exact ⟨.i, rfl⟩
    | 3, _ => exact ⟨.d, rfl⟩
    | 4, _ => exact ⟨.b, rfl⟩
    | 5, _ => exact ⟨.u, rfl⟩
    | 6, _ => exact ⟨.v, rfl⟩
    | 7, _ => exact ⟨.n, rfl⟩
  obtain ⟨f, rfl⟩ := hs
  exact h f

/-- SetNZ writes Z from the result being zero (00_scope.md R13). -/
@[simp] theorem getFlag_setNZ_z (p r : Byte) : getFlag (setNZ p r) .z = (r == 0) := by
  simp [setNZ, getFlag_setFlag_of_ne]

/-- SetNZ writes N from bit 7. -/
@[simp] theorem getFlag_setNZ_n (p r : Byte) : getFlag (setNZ p r) .n = r.getLsbD 7 := by
  simp [setNZ]

/-- SetNZ changes no other flag. -/
theorem getFlag_setNZ_of_ne (p r : Byte) {f : Flag} (hz : f ≠ .z) (hn : f ≠ .n) :
    getFlag (setNZ p r) f = getFlag p f := by
  simp [setNZ, getFlag_setFlag_of_ne, hz, hn]

/-- The pushed status has B and U set and every other flag as P has it (45_stack.md R164). -/
theorem getFlag_pushedStatus (p : Byte) (f : Flag) :
    getFlag (pushedStatus p) f = (getFlag p f || decide (f = .b ∨ f = .u)) := by
  cases f <;> simp [getFlag, pushedStatus, Flag.bit]

/-- PLP and RTI keep B and U and take every other flag from the pulled byte (R166). -/
theorem getFlag_pulledStatus (p v : Byte) (f : Flag) :
    getFlag (pulledStatus p v) f = if f = .b ∨ f = .u then getFlag p f else getFlag v f := by
  cases f <;> simp [getFlag, pulledStatus, Flag.bit]

end Sys2Proof.Machine
end

