-- ==== Sys2Proof/Laws/Memory.lean ====
section
/-! SUPPORT. The laws of memory: a read after a write, and the canonical form, which every operation keeps. -/

namespace Sys2Proof.Machine

/-! ### Reading -/

theorem Memory.lookupCell_filter_ne (m : Memory) (k n : Nat) (h : n ≠ k) :
    Memory.lookupCell (m.filter fun c => c.1 != k) n = Memory.lookupCell m n := by
  induction m with
  | nil => rfl
  | cons c m ih =>
    obtain ⟨a, v⟩ := c
    by_cases hk : a = k
    · subst hk
      simp [Memory.lookupCell, ih, h.symm]
    · simp [hk, Memory.lookupCell, ih]

theorem Memory.lookupCell_filter_self (m : Memory) (k : Nat) :
    Memory.lookupCell (m.filter fun c => c.1 != k) k = 0x00 := by
  induction m with
  | nil => rfl
  | cons c m ih =>
    by_cases hk : c.1 = k
    · simp [hk, ih]
    · simp [hk, Memory.lookupCell, ih]

theorem Memory.lookupCell_insertCell_ne (m : Memory) (c : Host.Cell) (n : Nat) (h : n ≠ c.1) :
    Memory.lookupCell (Memory.insertCell m c) n = Memory.lookupCell m n := by
  induction m with
  | nil => simp [Memory.insertCell, Memory.lookupCell, h.symm]
  | cons d m ih =>
    by_cases hd : c.1 < d.1
    · simp [Memory.insertCell, hd, Memory.lookupCell, h.symm]
    · simp [Memory.insertCell, hd, Memory.lookupCell, ih]

theorem Memory.lookupCell_insertCell_self (m : Memory) (c : Host.Cell) (h : ∀ d ∈ m, d.1 ≠ c.1) :
    Memory.lookupCell (Memory.insertCell m c) c.1 = c.2 := by
  induction m with
  | nil => simp [Memory.insertCell, Memory.lookupCell]
  | cons d m ih =>
    by_cases hd : c.1 < d.1
    · simp [Memory.insertCell, hd, Memory.lookupCell]
    · have hne : d.1 ≠ c.1 := h d (by simp)
      simp [Memory.insertCell, hd, Memory.lookupCell, hne, ih fun e he => h e (by simp [he])]

/-- A read of the address written gives the byte written (10_state.md R38), whatever the memory. -/
@[simp] theorem Memory.read_write_self (m : Memory) (w : Word) (v : Byte) : (m.write w v).read w = v := by
  unfold Memory.read Memory.write
  split
  · next h => simp only [Memory.lookupCell_filter_self, h]
  · exact Memory.lookupCell_insertCell_self _ (w.toNat, v) (by simp [List.mem_filter])

/-- A write leaves every other address alone, whatever the memory. -/
theorem Memory.read_write_of_ne (m : Memory) {w u : Word} (v : Byte) (h : u ≠ w) :
    (m.write w v).read u = m.read u := by
  have hn : u.toNat ≠ w.toNat := fun e => h (BitVec.eq_of_toNat_eq e)
  unfold Memory.read Memory.write
  split
  · exact Memory.lookupCell_filter_ne _ _ _ hn
  · exact (Memory.lookupCell_insertCell_ne _ (w.toNat, v) _ hn).trans (Memory.lookupCell_filter_ne _ _ _ hn)

/-! ### The canonical form -/

theorem Memory.mem_insertCell {m : Memory} {c d : Host.Cell} :
    d ∈ Memory.insertCell m c ↔ d = c ∨ d ∈ m := by
  induction m with
  | nil => simp [Memory.insertCell]
  | cons e m ih =>
    unfold Memory.insertCell
    split
    · simp
    · simp only [List.mem_cons, ih]; tauto

theorem Memory.insertCell_pairwise {m : Memory} {c : Host.Cell}
    (hm : m.Pairwise fun c d => c.1 < d.1) (hc : ∀ d ∈ m, d.1 ≠ c.1) :
    (Memory.insertCell m c).Pairwise fun c d => c.1 < d.1 := by
  induction m with
  | nil => simp [Memory.insertCell]
  | cons e m ih =>
    obtain ⟨he, hm⟩ := List.pairwise_cons.1 hm
    unfold Memory.insertCell
    split
    · next h =>
      refine List.pairwise_cons.2 ⟨fun d hd => ?_, List.pairwise_cons.2 ⟨he, hm⟩⟩
      rcases List.mem_cons.1 hd with rfl | hd
      · exact h
      · exact h.trans (he d hd)
    · next h =>
      refine List.pairwise_cons.2 ⟨fun d hd => ?_, ih hm fun d hd => hc d (by simp [hd])⟩
      rcases Memory.mem_insertCell.1 hd with rfl | hd
      · have := hc e (by simp); omega
      · exact he d hd

/-- A write keeps the canonical form. -/
theorem Memory.write_wf {m : Memory} (hm : m.wf) (w : Word) (v : Byte) : (m.write w v).wf := by
  have hp : (m.filter fun c => c.1 != w.toNat).Pairwise fun c d => c.1 < d.1 := hm.1.filter _
  have hb : ∀ c ∈ m.filter fun c => c.1 != w.toNat, c.1 < 65536 ∧ c.2 ≠ 0 :=
    fun c hc => hm.2 c (List.mem_filter.1 hc).1
  unfold Memory.write
  split
  · exact ⟨hp, hb⟩
  · next hv =>
    refine ⟨Memory.insertCell_pairwise hp (by simp [List.mem_filter]), fun c hc => ?_⟩
    rcases Memory.mem_insertCell.1 hc with rfl | hc
    · exact ⟨w.isLt, hv⟩
    · exact hb c hc

/-- Writing a list of bytes keeps the canonical form. -/
theorem Memory.writeBytes_wf {m : Memory} (hm : m.wf) (w : Word) (bs : List Byte) : (m.writeBytes w bs).wf := by
  induction bs generalizing m w with
  | nil => exact hm
  | cons b bs ih => exact ih (Memory.write_wf hm w b) (w + 1)

/-- The empty memory is canonical. -/
theorem Memory.nil_wf : Memory.wf [] := ⟨.nil, by simp⟩

end Sys2Proof.Machine
end

