-- ==== Sys2Proof/Laws/Ops.lean ====
section
/-! SUPPORT. What each shared operation does to each field: the lemmas that later proofs cite in place of unfolding. -/

namespace Sys2Proof.Machine

/-! ### Reading bytes and flags of an updated state -/

@[simp] theorem State.read_setA (s : State) (v : Byte) (w : Word) : (s.setA v).read w = s.read w := rfl
@[simp] theorem State.read_setX (s : State) (v : Byte) (w : Word) : (s.setX v).read w = s.read w := rfl
@[simp] theorem State.read_setY (s : State) (v : Byte) (w : Word) : (s.setY v).read w = s.read w := rfl
@[simp] theorem State.read_setSP (s : State) (v : Byte) (w : Word) : (s.setSP v).read w = s.read w := rfl
@[simp] theorem State.read_setPC (s : State) (v w : Word) : (s.setPC v).read w = s.read w := rfl
@[simp] theorem State.read_setP (s : State) (v : Byte) (w : Word) : (s.setP v).read w = s.read w := rfl
@[simp] theorem State.read_setFlag (s : State) (f : Flag) (b : Bool) (w : Word) : (s.setFlag f b).read w = s.read w := rfl
@[simp] theorem State.read_setNZ (s : State) (r : Byte) (w : Word) : (s.setNZ r).read w = s.read w := rfl
@[simp] theorem State.read_advance (s : State) (n : Nat) (w : Word) : (s.advance n).read w = s.read w := rfl
@[simp] theorem State.read_drop (s : State) (w : Word) : s.drop.read w = s.read w := rfl

/-- The byte just written. -/
@[simp] theorem State.read_write_self (s : State) (w : Word) (v : Byte) : (s.write w v).read w = v :=
  Memory.read_write_self s.mem w v

/-- Every other byte. -/
theorem State.read_write_of_ne (s : State) {w u : Word} (v : Byte) (h : u ≠ w) : (s.write w v).read u = s.read u :=
  Memory.read_write_of_ne s.mem v h

/-- One lemma for both cases. -/
theorem State.read_write (s : State) (w u : Word) (v : Byte) :
    (s.write w v).read u = if u = w then v else s.read u := by
  split
  · next h => subst h; exact s.read_write_self u v
  · next h => exact s.read_write_of_ne v h

/-! ### Lengths of operands -/

@[simp] theorem Source.length_mem (m : MemOperand) : (Source.mem m).length = m.length := rfl
@[simp] theorem Target.length_mem (m : MemOperand) : (Target.mem m).length = m.length := rfl

/-! ### Stack -/

/-- Stack addresses of different stack pointers differ. -/
theorem stackAddr_injective {a b : Byte} (h : stackAddr a = stackAddr b) : a = b := by
  simp only [stackAddr, Config.stackPage, zext16] at h
  bv_omega

/-- A push writes one byte, in the stack page (45_stack.md R160). -/
theorem State.read_push (s : State) (v : Byte) (u : Word) :
    (s.push v).read u = if u = stackAddr s.sp then v else s.read u :=
  s.read_write (stackAddr s.sp) u v

/-- The byte popped after a push is the byte pushed (R160, R161). -/
@[simp] theorem State.top_push (s : State) (v : Byte) : (s.push v).top = v := by
  simp [State.top, State.read_push]

/-! ### The arithmetic steps: their registers and memory, their flags -/

@[simp] theorem State.addWithCarry_a (s : State) (m : Byte) :
    (s.addWithCarry m).a = adcResult s.a m (s.flag .c) := rfl
@[simp] theorem State.addWithCarry_x (s : State) (m : Byte) : (s.addWithCarry m).x = s.x := rfl
@[simp] theorem State.addWithCarry_y (s : State) (m : Byte) : (s.addWithCarry m).y = s.y := rfl
@[simp] theorem State.addWithCarry_sp (s : State) (m : Byte) : (s.addWithCarry m).sp = s.sp := rfl
@[simp] theorem State.addWithCarry_pc (s : State) (m : Byte) : (s.addWithCarry m).pc = s.pc := rfl
@[simp] theorem State.addWithCarry_mem (s : State) (m : Byte) : (s.addWithCarry m).mem = s.mem := rfl

/-- ADC's flags: C, V, Z, N, and no other (41_arithmetic.md R120). -/
theorem State.addWithCarry_flag (s : State) (m : Byte) (f : Flag) :
    (s.addWithCarry m).flag f =
      match f with
      | .c => adcCarry s.a m (s.flag .c)
      | .v => adcOverflow s.a m (s.flag .c)
      | .z => adcResult s.a m (s.flag .c) == 0
      | .n => (adcResult s.a m (s.flag .c)).getLsbD 7
      | f => s.flag f := by
  cases f <;> simp [State.flag_eq, State.addWithCarry, getFlag_setNZ_of_ne, getFlag_setFlag_of_ne]

@[simp] theorem State.subtractWithCarry_a (s : State) (m : Byte) :
    (s.subtractWithCarry m).a = sbcResult s.a m (s.flag .c) := rfl
@[simp] theorem State.subtractWithCarry_x (s : State) (m : Byte) : (s.subtractWithCarry m).x = s.x := rfl
@[simp] theorem State.subtractWithCarry_y (s : State) (m : Byte) : (s.subtractWithCarry m).y = s.y := rfl
@[simp] theorem State.subtractWithCarry_sp (s : State) (m : Byte) : (s.subtractWithCarry m).sp = s.sp := rfl
@[simp] theorem State.subtractWithCarry_pc (s : State) (m : Byte) : (s.subtractWithCarry m).pc = s.pc := rfl
@[simp] theorem State.subtractWithCarry_mem (s : State) (m : Byte) : (s.subtractWithCarry m).mem = s.mem := rfl

/-- SBC's flags: C, V, Z, N, and no other (R121). -/
theorem State.subtractWithCarry_flag (s : State) (m : Byte) (f : Flag) :
    (s.subtractWithCarry m).flag f =
      match f with
      | .c => sbcCarry s.a m (s.flag .c)
      | .v => sbcOverflow s.a m (s.flag .c)
      | .z => sbcResult s.a m (s.flag .c) == 0
      | .n => (sbcResult s.a m (s.flag .c)).getLsbD 7
      | f => s.flag f := by
  cases f <;> simp [State.flag_eq, State.subtractWithCarry, getFlag_setNZ_of_ne, getFlag_setFlag_of_ne]

@[simp] theorem State.compare_a (s : State) (r m : Byte) : (s.compare r m).a = s.a := rfl
@[simp] theorem State.compare_x (s : State) (r m : Byte) : (s.compare r m).x = s.x := rfl
@[simp] theorem State.compare_y (s : State) (r m : Byte) : (s.compare r m).y = s.y := rfl
@[simp] theorem State.compare_sp (s : State) (r m : Byte) : (s.compare r m).sp = s.sp := rfl
@[simp] theorem State.compare_pc (s : State) (r m : Byte) : (s.compare r m).pc = s.pc := rfl
@[simp] theorem State.compare_mem (s : State) (r m : Byte) : (s.compare r m).mem = s.mem := rfl

/-- A compare's flags: C, Z, N, and no other (R122). -/
theorem State.compare_flag (s : State) (r m : Byte) (f : Flag) :
    (s.compare r m).flag f =
      match f with
      | .c => cmpCarry r m
      | .z => cmpResult r m == 0
      | .n => (cmpResult r m).getLsbD 7
      | f => s.flag f := by
  cases f <;> simp [State.flag_eq, State.compare, getFlag_setNZ_of_ne, getFlag_setFlag_of_ne]

/-! ### The software interrupt -/

@[simp] theorem State.enterInterrupt_a (s : State) (w : Word) : (s.enterInterrupt w).a = s.a := by
  simp [State.enterInterrupt, State.push16]
@[simp] theorem State.enterInterrupt_x (s : State) (w : Word) : (s.enterInterrupt w).x = s.x := by
  simp [State.enterInterrupt, State.push16]
@[simp] theorem State.enterInterrupt_y (s : State) (w : Word) : (s.enterInterrupt w).y = s.y := by
  simp [State.enterInterrupt, State.push16]
@[simp] theorem State.enterInterrupt_sp (s : State) (w : Word) : (s.enterInterrupt w).sp = s.sp - 1 - 1 - 1 := rfl
@[simp] theorem State.enterInterrupt_p (s : State) (w : Word) :
    (s.enterInterrupt w).p = Sys2Proof.Machine.setFlag s.p .i true := rfl
@[simp] theorem State.enterInterrupt_mem (s : State) (w : Word) :
    (s.enterInterrupt w).mem = (((s.mem.write (stackAddr s.sp) (hiByte w)).write (stackAddr (s.sp - 1)) (loByte w)).write
      (stackAddr (s.sp - 1 - 1)) (pushedStatus s.p)) := rfl

@[simp] theorem State.returnFromInterrupt_a (s : State) : s.returnFromInterrupt.a = s.a := by
  simp [State.returnFromInterrupt, State.drop16]
@[simp] theorem State.returnFromInterrupt_x (s : State) : s.returnFromInterrupt.x = s.x := by
  simp [State.returnFromInterrupt, State.drop16]
@[simp] theorem State.returnFromInterrupt_y (s : State) : s.returnFromInterrupt.y = s.y := by
  simp [State.returnFromInterrupt, State.drop16]
@[simp] theorem State.returnFromInterrupt_sp (s : State) : s.returnFromInterrupt.sp = s.sp + 1 + 1 + 1 := rfl
@[simp] theorem State.returnFromInterrupt_p (s : State) :
    s.returnFromInterrupt.p = pulledStatus s.p (s.read (stackAddr (s.sp + 1))) := rfl
@[simp] theorem State.returnFromInterrupt_mem (s : State) : s.returnFromInterrupt.mem = s.mem := rfl
@[simp] theorem State.returnFromInterrupt_pc (s : State) :
    s.returnFromInterrupt.pc =
      joinBytes (s.read (stackAddr (s.sp + 1 + 1 + 1))) (s.read (stackAddr (s.sp + 1 + 1))) := rfl

/-! ### Write-back and the high-byte store -/

@[simp] theorem State.writeBack_x (s : State) (v : Byte) (o : Target) : (s.writeBack v o).x = s.x := by cases o <;> rfl
@[simp] theorem State.writeBack_y (s : State) (v : Byte) (o : Target) : (s.writeBack v o).y = s.y := by cases o <;> rfl
@[simp] theorem State.writeBack_sp (s : State) (v : Byte) (o : Target) : (s.writeBack v o).sp = s.sp := by cases o <;> rfl
@[simp] theorem State.writeBack_pc (s : State) (v : Byte) (o : Target) : (s.writeBack v o).pc = s.pc := by cases o <;> rfl
@[simp] theorem State.writeBack_p (s : State) (v : Byte) (o : Target) : (s.writeBack v o).p = s.p := by cases o <;> rfl

/-- Write-back keeps memory canonical. -/
theorem State.writeBack_wf {s : State} (h : s.mem.wf) (v : Byte) (o : Target) : (s.writeBack v o).mem.wf := by
  cases o
  · exact h
  · exact Memory.write_wf h _ v

@[simp] theorem State.highByteStore_a (s : State) (t : Indexed) (v : Byte) : (s.highByteStore t v).a = s.a := rfl
@[simp] theorem State.highByteStore_x (s : State) (t : Indexed) (v : Byte) : (s.highByteStore t v).x = s.x := rfl
@[simp] theorem State.highByteStore_y (s : State) (t : Indexed) (v : Byte) : (s.highByteStore t v).y = s.y := rfl
@[simp] theorem State.highByteStore_sp (s : State) (t : Indexed) (v : Byte) : (s.highByteStore t v).sp = s.sp := rfl
@[simp] theorem State.highByteStore_pc (s : State) (t : Indexed) (v : Byte) : (s.highByteStore t v).pc = s.pc := rfl
@[simp] theorem State.highByteStore_p (s : State) (t : Indexed) (v : Byte) : (s.highByteStore t v).p = s.p := rfl
@[simp] theorem State.highByteStore_mem (s : State) (t : Indexed) (v : Byte) :
    (s.highByteStore t v).mem = s.mem.write (highStoreAddr t v) (highStoreByte t v) := rfl

end Sys2Proof.Machine
end

