-- ==== Sys2Proof/Laws/Effect.lean ====
section
/-! SUPPORT. What an instruction does, said once by mnemonic tag and operand in place of by opcode: 76 cases for a proof
about every instruction, in place of 256 (40_engine.md R92: a step dispatches on the instruction tag). -/

namespace Sys2Proof

/-- The operand as what a reading instruction reads. -/
def Operand.source : Operand → Source
  | .imm ii => .imm ii
  | .mem m => .mem m
  | _ => .imm 0

/-- The operand as what a shift or rotate changes. -/
def Operand.target : Operand → Target
  | .mem m => .mem m
  | _ => .acc

/-- The operand as a memory operand. -/
def Operand.memory : Operand → MemOperand
  | .mem m => m
  | _ => .zp 0

/-- The operand's one byte. -/
def Operand.byte : Operand → Byte
  | .imm b | .sig b | .rel b => b
  | _ => 0

/-- The operand's Word. -/
def Operand.address : Operand → Word
  | .mem (.abs w) | .mem (.absx w) | .mem (.absy w) | .ind w => w
  | _ => 0

namespace Machine

/-- Where a JMP goes (46_jump_call.md R170, R171). -/
def State.jumpTarget (s : State) : Operand → Word
  | .ind w => s.mem.readPageWord w
  | o => o.address

/-- The base and index of a high-byte store (49_undocumented.md R227). -/
def State.indexed (s : State) : Operand → Indexed
  | .mem (.absx w) => s.absx w
  | .mem (.absy w) => s.absy w
  | .mem (.izy z) => s.izy z
  | _ => ⟨0, 0⟩

/-- What the instruction with this tag and operand does. -/
def effect (k : Mnemonic) (o : Operand) (s : State) : Result :=
  match k with
  | .adc => opAdc o.source s
  | .sbc => opSbc o.source s
  | .cmp => opCmp o.source s
  | .cpx => opCpx o.source s
  | .cpy => opCpy o.source s
  | .asl => opAsl o.target s
  | .lsr => opLsr o.target s
  | .rol => opRol o.target s
  | .ror => opRor o.target s
  | .inc => opInc o.memory s
  | .dec => opDec o.memory s
  | .inx => opWriteX (s.x + 1) s
  | .iny => opWriteY (s.y + 1) s
  | .dex => opWriteX (s.x - 1) s
  | .dey => opWriteY (s.y - 1) s
  | .bcc => opBranch (!s.flag .c) o.byte s
  | .bcs => opBranch (s.flag .c) o.byte s
  | .beq => opBranch (s.flag .z) o.byte s
  | .bne => opBranch (!s.flag .z) o.byte s
  | .bmi => opBranch (s.flag .n) o.byte s
  | .bpl => opBranch (!s.flag .n) o.byte s
  | .bvc => opBranch (!s.flag .v) o.byte s
  | .bvs => opBranch (s.flag .v) o.byte s
  | .pha => opPush s.a s
  | .php => opPush (pushedStatus s.p) s
  | .pla => opPla s
  | .plp => opPlp s
  | .tsx => opWriteX s.sp s
  | .txs => .next ((s.setSP s.x).advance 1)
  | .jmp => opJmp (s.jumpTarget o) s
  | .jsr => opJsr o.address s
  | .rts => opRts s
  | .brk => opBrk s
  | .rti => opRti s
  | .lda => opLda o.source s
  | .ldx => opLdx o.source s
  | .ldy => opLdy o.source s
  | .sta => opStore s.a o.memory s
  | .stx => opStore s.x o.memory s
  | .sty => opStore s.y o.memory s
  | .tax => opWriteX s.a s
  | .tay => opWriteY s.a s
  | .txa => opWriteA s.x s
  | .tya => opWriteA s.y s
  | .and => opAnd o.source s
  | .ora => opOra o.source s
  | .eor => opEor o.source s
  | .bit => opBit o.memory s
  | .clc => opFlag .c false s
  | .sec => opFlag .c true s
  | .cli => opFlag .i false s
  | .sei => opFlag .i true s
  | .cld => opFlag .d false s
  | .sed => opFlag .d true s
  | .clv => opFlag .v false s
  | .nop => opNop o.format s
  | .slo => opSlo o.memory s
  | .rla => opRla o.memory s
  | .sre => opSre o.memory s
  | .rra => opRra o.memory s
  | .dcp => opDcp o.memory s
  | .isc => opIsc o.memory s
  | .sax => opStore (s.a &&& s.x) o.memory s
  | .lax => opLax o.memory s
  | .anc => opAnc o.byte s
  | .alr => opAlr o.byte s
  | .arr => opArr o.byte s
  | .xaa => opXaa o.byte s
  | .lxa => opLxa o.byte s
  | .sbx => opSbx o.byte s
  | .las => opLas o.memory s
  | .sha => opHighStore (s.indexed o) (s.a &&& s.x) o.format s
  | .shx => opHighStore (s.indexed o) s.x o.format s
  | .shy => opHighStore (s.indexed o) s.y o.format s
  | .tas => opTas (s.indexed o) s
  | .jam => opJam s

/-- The meaning of every instruction is the effect of its tag on its operand. -/
theorem exec_eq_effect (i : Instr) (s : State) : exec i s = effect i.mnemonic i.operand s := by
  cases i <;> rfl

end Machine
end Sys2Proof
end

