-- ==== Sys2Proof/Laws/PerInstr.lean ====
section
/-! SUPPORT. Statements about the instruction as syntax, one lemma per constructor. -/

namespace Sys2Proof.Laws.EncodedLength

/-- The encoding has the length of the instruction's format (30_encoding.md R72), and the decoder takes as many bytes
for its opcode (R71). -/
def Statement (i : Instr) : Prop := (encode i).length = i.length ∧ opcodeLength i.opcode = i.length

theorem adcImm (ii : Byte) : Statement (.adcImm ii) :=
  ⟨rfl, show opcodeLength 0x69 = 2 by decide⟩
theorem adcZp (zz : Byte) : Statement (.adcZp zz) :=
  ⟨rfl, show opcodeLength 0x65 = 2 by decide⟩
theorem adcZpx (zz : Byte) : Statement (.adcZpx zz) :=
  ⟨rfl, show opcodeLength 0x75 = 2 by decide⟩
theorem adcAbs (hhll : Word) : Statement (.adcAbs hhll) :=
  ⟨rfl, show opcodeLength 0x6D = 3 by decide⟩
theorem adcAbsx (hhll : Word) : Statement (.adcAbsx hhll) :=
  ⟨rfl, show opcodeLength 0x7D = 3 by decide⟩
theorem adcAbsy (hhll : Word) : Statement (.adcAbsy hhll) :=
  ⟨rfl, show opcodeLength 0x79 = 3 by decide⟩
theorem adcIzx (zz : Byte) : Statement (.adcIzx zz) :=
  ⟨rfl, show opcodeLength 0x61 = 2 by decide⟩
theorem adcIzy (zz : Byte) : Statement (.adcIzy zz) :=
  ⟨rfl, show opcodeLength 0x71 = 2 by decide⟩
theorem sbcImm (ii : Byte) : Statement (.sbcImm ii) :=
  ⟨rfl, show opcodeLength 0xE9 = 2 by decide⟩
theorem sbcZp (zz : Byte) : Statement (.sbcZp zz) :=
  ⟨rfl, show opcodeLength 0xE5 = 2 by decide⟩
theorem sbcZpx (zz : Byte) : Statement (.sbcZpx zz) :=
  ⟨rfl, show opcodeLength 0xF5 = 2 by decide⟩
theorem sbcAbs (hhll : Word) : Statement (.sbcAbs hhll) :=
  ⟨rfl, show opcodeLength 0xED = 3 by decide⟩
theorem sbcAbsx (hhll : Word) : Statement (.sbcAbsx hhll) :=
  ⟨rfl, show opcodeLength 0xFD = 3 by decide⟩
theorem sbcAbsy (hhll : Word) : Statement (.sbcAbsy hhll) :=
  ⟨rfl, show opcodeLength 0xF9 = 3 by decide⟩
theorem sbcIzx (zz : Byte) : Statement (.sbcIzx zz) :=
  ⟨rfl, show opcodeLength 0xE1 = 2 by decide⟩
theorem sbcIzy (zz : Byte) : Statement (.sbcIzy zz) :=
  ⟨rfl, show opcodeLength 0xF1 = 2 by decide⟩
theorem cmpImm (ii : Byte) : Statement (.cmpImm ii) :=
  ⟨rfl, show opcodeLength 0xC9 = 2 by decide⟩
theorem cmpZp (zz : Byte) : Statement (.cmpZp zz) :=
  ⟨rfl, show opcodeLength 0xC5 = 2 by decide⟩
theorem cmpZpx (zz : Byte) : Statement (.cmpZpx zz) :=
  ⟨rfl, show opcodeLength 0xD5 = 2 by decide⟩
theorem cmpAbs (hhll : Word) : Statement (.cmpAbs hhll) :=
  ⟨rfl, show opcodeLength 0xCD = 3 by decide⟩
theorem cmpAbsx (hhll : Word) : Statement (.cmpAbsx hhll) :=
  ⟨rfl, show opcodeLength 0xDD = 3 by decide⟩
theorem cmpAbsy (hhll : Word) : Statement (.cmpAbsy hhll) :=
  ⟨rfl, show opcodeLength 0xD9 = 3 by decide⟩
theorem cmpIzx (zz : Byte) : Statement (.cmpIzx zz) :=
  ⟨rfl, show opcodeLength 0xC1 = 2 by decide⟩
theorem cmpIzy (zz : Byte) : Statement (.cmpIzy zz) :=
  ⟨rfl, show opcodeLength 0xD1 = 2 by decide⟩
theorem cpxImm (ii : Byte) : Statement (.cpxImm ii) :=
  ⟨rfl, show opcodeLength 0xE0 = 2 by decide⟩
theorem cpxZp (zz : Byte) : Statement (.cpxZp zz) :=
  ⟨rfl, show opcodeLength 0xE4 = 2 by decide⟩
theorem cpxAbs (hhll : Word) : Statement (.cpxAbs hhll) :=
  ⟨rfl, show opcodeLength 0xEC = 3 by decide⟩
theorem cpyImm (ii : Byte) : Statement (.cpyImm ii) :=
  ⟨rfl, show opcodeLength 0xC0 = 2 by decide⟩
theorem cpyZp (zz : Byte) : Statement (.cpyZp zz) :=
  ⟨rfl, show opcodeLength 0xC4 = 2 by decide⟩
theorem cpyAbs (hhll : Word) : Statement (.cpyAbs hhll) :=
  ⟨rfl, show opcodeLength 0xCC = 3 by decide⟩
theorem aslAcc : Statement (.aslAcc) :=
  ⟨rfl, show opcodeLength 0x0A = 1 by decide⟩
theorem aslZp (zz : Byte) : Statement (.aslZp zz) :=
  ⟨rfl, show opcodeLength 0x06 = 2 by decide⟩
theorem aslZpx (zz : Byte) : Statement (.aslZpx zz) :=
  ⟨rfl, show opcodeLength 0x16 = 2 by decide⟩
theorem aslAbs (hhll : Word) : Statement (.aslAbs hhll) :=
  ⟨rfl, show opcodeLength 0x0E = 3 by decide⟩
theorem aslAbsx (hhll : Word) : Statement (.aslAbsx hhll) :=
  ⟨rfl, show opcodeLength 0x1E = 3 by decide⟩
theorem lsrAcc : Statement (.lsrAcc) :=
  ⟨rfl, show opcodeLength 0x4A = 1 by decide⟩
theorem lsrZp (zz : Byte) : Statement (.lsrZp zz) :=
  ⟨rfl, show opcodeLength 0x46 = 2 by decide⟩
theorem lsrZpx (zz : Byte) : Statement (.lsrZpx zz) :=
  ⟨rfl, show opcodeLength 0x56 = 2 by decide⟩
theorem lsrAbs (hhll : Word) : Statement (.lsrAbs hhll) :=
  ⟨rfl, show opcodeLength 0x4E = 3 by decide⟩
theorem lsrAbsx (hhll : Word) : Statement (.lsrAbsx hhll) :=
  ⟨rfl, show opcodeLength 0x5E = 3 by decide⟩
theorem rolAcc : Statement (.rolAcc) :=
  ⟨rfl, show opcodeLength 0x2A = 1 by decide⟩
theorem rolZp (zz : Byte) : Statement (.rolZp zz) :=
  ⟨rfl, show opcodeLength 0x26 = 2 by decide⟩
theorem rolZpx (zz : Byte) : Statement (.rolZpx zz) :=
  ⟨rfl, show opcodeLength 0x36 = 2 by decide⟩
theorem rolAbs (hhll : Word) : Statement (.rolAbs hhll) :=
  ⟨rfl, show opcodeLength 0x2E = 3 by decide⟩
theorem rolAbsx (hhll : Word) : Statement (.rolAbsx hhll) :=
  ⟨rfl, show opcodeLength 0x3E = 3 by decide⟩
theorem rorAcc : Statement (.rorAcc) :=
  ⟨rfl, show opcodeLength 0x6A = 1 by decide⟩
theorem rorZp (zz : Byte) : Statement (.rorZp zz) :=
  ⟨rfl, show opcodeLength 0x66 = 2 by decide⟩
theorem rorZpx (zz : Byte) : Statement (.rorZpx zz) :=
  ⟨rfl, show opcodeLength 0x76 = 2 by decide⟩
theorem rorAbs (hhll : Word) : Statement (.rorAbs hhll) :=
  ⟨rfl, show opcodeLength 0x6E = 3 by decide⟩
theorem rorAbsx (hhll : Word) : Statement (.rorAbsx hhll) :=
  ⟨rfl, show opcodeLength 0x7E = 3 by decide⟩
theorem incZp (zz : Byte) : Statement (.incZp zz) :=
  ⟨rfl, show opcodeLength 0xE6 = 2 by decide⟩
theorem incZpx (zz : Byte) : Statement (.incZpx zz) :=
  ⟨rfl, show opcodeLength 0xF6 = 2 by decide⟩
theorem incAbs (hhll : Word) : Statement (.incAbs hhll) :=
  ⟨rfl, show opcodeLength 0xEE = 3 by decide⟩
theorem incAbsx (hhll : Word) : Statement (.incAbsx hhll) :=
  ⟨rfl, show opcodeLength 0xFE = 3 by decide⟩
theorem decZp (zz : Byte) : Statement (.decZp zz) :=
  ⟨rfl, show opcodeLength 0xC6 = 2 by decide⟩
theorem decZpx (zz : Byte) : Statement (.decZpx zz) :=
  ⟨rfl, show opcodeLength 0xD6 = 2 by decide⟩
theorem decAbs (hhll : Word) : Statement (.decAbs hhll) :=
  ⟨rfl, show opcodeLength 0xCE = 3 by decide⟩
theorem decAbsx (hhll : Word) : Statement (.decAbsx hhll) :=
  ⟨rfl, show opcodeLength 0xDE = 3 by decide⟩
theorem inx : Statement (.inx) :=
  ⟨rfl, show opcodeLength 0xE8 = 1 by decide⟩
theorem iny : Statement (.iny) :=
  ⟨rfl, show opcodeLength 0xC8 = 1 by decide⟩
theorem dex : Statement (.dex) :=
  ⟨rfl, show opcodeLength 0xCA = 1 by decide⟩
theorem dey : Statement (.dey) :=
  ⟨rfl, show opcodeLength 0x88 = 1 by decide⟩
theorem bcc (dd : Byte) : Statement (.bcc dd) :=
  ⟨rfl, show opcodeLength 0x90 = 2 by decide⟩
theorem bcs (dd : Byte) : Statement (.bcs dd) :=
  ⟨rfl, show opcodeLength 0xB0 = 2 by decide⟩
theorem beq (dd : Byte) : Statement (.beq dd) :=
  ⟨rfl, show opcodeLength 0xF0 = 2 by decide⟩
theorem bne (dd : Byte) : Statement (.bne dd) :=
  ⟨rfl, show opcodeLength 0xD0 = 2 by decide⟩
theorem bmi (dd : Byte) : Statement (.bmi dd) :=
  ⟨rfl, show opcodeLength 0x30 = 2 by decide⟩
theorem bpl (dd : Byte) : Statement (.bpl dd) :=
  ⟨rfl, show opcodeLength 0x10 = 2 by decide⟩
theorem bvc (dd : Byte) : Statement (.bvc dd) :=
  ⟨rfl, show opcodeLength 0x50 = 2 by decide⟩
theorem bvs (dd : Byte) : Statement (.bvs dd) :=
  ⟨rfl, show opcodeLength 0x70 = 2 by decide⟩
theorem pha : Statement (.pha) :=
  ⟨rfl, show opcodeLength 0x48 = 1 by decide⟩
theorem php : Statement (.php) :=
  ⟨rfl, show opcodeLength 0x08 = 1 by decide⟩
theorem pla : Statement (.pla) :=
  ⟨rfl, show opcodeLength 0x68 = 1 by decide⟩
theorem plp : Statement (.plp) :=
  ⟨rfl, show opcodeLength 0x28 = 1 by decide⟩
theorem tsx : Statement (.tsx) :=
  ⟨rfl, show opcodeLength 0xBA = 1 by decide⟩
theorem txs : Statement (.txs) :=
  ⟨rfl, show opcodeLength 0x9A = 1 by decide⟩
theorem jmpAbs (hhll : Word) : Statement (.jmpAbs hhll) :=
  ⟨rfl, show opcodeLength 0x4C = 3 by decide⟩
theorem jmpInd (hhll : Word) : Statement (.jmpInd hhll) :=
  ⟨rfl, show opcodeLength 0x6C = 3 by decide⟩
theorem jsrAbs (hhll : Word) : Statement (.jsrAbs hhll) :=
  ⟨rfl, show opcodeLength 0x20 = 3 by decide⟩
theorem rts : Statement (.rts) :=
  ⟨rfl, show opcodeLength 0x60 = 1 by decide⟩
theorem brk (ss : Byte) : Statement (.brk ss) :=
  ⟨rfl, show opcodeLength 0x00 = 2 by decide⟩
theorem rti : Statement (.rti) :=
  ⟨rfl, show opcodeLength 0x40 = 1 by decide⟩
theorem ldaImm (ii : Byte) : Statement (.ldaImm ii) :=
  ⟨rfl, show opcodeLength 0xA9 = 2 by decide⟩
theorem ldaZp (zz : Byte) : Statement (.ldaZp zz) :=
  ⟨rfl, show opcodeLength 0xA5 = 2 by decide⟩
theorem ldaZpx (zz : Byte) : Statement (.ldaZpx zz) :=
  ⟨rfl, show opcodeLength 0xB5 = 2 by decide⟩
theorem ldaAbs (hhll : Word) : Statement (.ldaAbs hhll) :=
  ⟨rfl, show opcodeLength 0xAD = 3 by decide⟩
theorem ldaAbsx (hhll : Word) : Statement (.ldaAbsx hhll) :=
  ⟨rfl, show opcodeLength 0xBD = 3 by decide⟩
theorem ldaAbsy (hhll : Word) : Statement (.ldaAbsy hhll) :=
  ⟨rfl, show opcodeLength 0xB9 = 3 by decide⟩
theorem ldaIzx (zz : Byte) : Statement (.ldaIzx zz) :=
  ⟨rfl, show opcodeLength 0xA1 = 2 by decide⟩
theorem ldaIzy (zz : Byte) : Statement (.ldaIzy zz) :=
  ⟨rfl, show opcodeLength 0xB1 = 2 by decide⟩
theorem ldxImm (ii : Byte) : Statement (.ldxImm ii) :=
  ⟨rfl, show opcodeLength 0xA2 = 2 by decide⟩
theorem ldxZp (zz : Byte) : Statement (.ldxZp zz) :=
  ⟨rfl, show opcodeLength 0xA6 = 2 by decide⟩
theorem ldxZpy (zz : Byte) : Statement (.ldxZpy zz) :=
  ⟨rfl, show opcodeLength 0xB6 = 2 by decide⟩
theorem ldxAbs (hhll : Word) : Statement (.ldxAbs hhll) :=
  ⟨rfl, show opcodeLength 0xAE = 3 by decide⟩
theorem ldxAbsy (hhll : Word) : Statement (.ldxAbsy hhll) :=
  ⟨rfl, show opcodeLength 0xBE = 3 by decide⟩
theorem ldyImm (ii : Byte) : Statement (.ldyImm ii) :=
  ⟨rfl, show opcodeLength 0xA0 = 2 by decide⟩
theorem ldyZp (zz : Byte) : Statement (.ldyZp zz) :=
  ⟨rfl, show opcodeLength 0xA4 = 2 by decide⟩
theorem ldyZpx (zz : Byte) : Statement (.ldyZpx zz) :=
  ⟨rfl, show opcodeLength 0xB4 = 2 by decide⟩
theorem ldyAbs (hhll : Word) : Statement (.ldyAbs hhll) :=
  ⟨rfl, show opcodeLength 0xAC = 3 by decide⟩
theorem ldyAbsx (hhll : Word) : Statement (.ldyAbsx hhll) :=
  ⟨rfl, show opcodeLength 0xBC = 3 by decide⟩
theorem staZp (zz : Byte) : Statement (.staZp zz) :=
  ⟨rfl, show opcodeLength 0x85 = 2 by decide⟩
theorem staZpx (zz : Byte) : Statement (.staZpx zz) :=
  ⟨rfl, show opcodeLength 0x95 = 2 by decide⟩
theorem staAbs (hhll : Word) : Statement (.staAbs hhll) :=
  ⟨rfl, show opcodeLength 0x8D = 3 by decide⟩
theorem staAbsx (hhll : Word) : Statement (.staAbsx hhll) :=
  ⟨rfl, show opcodeLength 0x9D = 3 by decide⟩
theorem staAbsy (hhll : Word) : Statement (.staAbsy hhll) :=
  ⟨rfl, show opcodeLength 0x99 = 3 by decide⟩
theorem staIzx (zz : Byte) : Statement (.staIzx zz) :=
  ⟨rfl, show opcodeLength 0x81 = 2 by decide⟩
theorem staIzy (zz : Byte) : Statement (.staIzy zz) :=
  ⟨rfl, show opcodeLength 0x91 = 2 by decide⟩
theorem stxZp (zz : Byte) : Statement (.stxZp zz) :=
  ⟨rfl, show opcodeLength 0x86 = 2 by decide⟩
theorem stxZpy (zz : Byte) : Statement (.stxZpy zz) :=
  ⟨rfl, show opcodeLength 0x96 = 2 by decide⟩
theorem stxAbs (hhll : Word) : Statement (.stxAbs hhll) :=
  ⟨rfl, show opcodeLength 0x8E = 3 by decide⟩
theorem styZp (zz : Byte) : Statement (.styZp zz) :=
  ⟨rfl, show opcodeLength 0x84 = 2 by decide⟩
theorem styZpx (zz : Byte) : Statement (.styZpx zz) :=
  ⟨rfl, show opcodeLength 0x94 = 2 by decide⟩
theorem styAbs (hhll : Word) : Statement (.styAbs hhll) :=
  ⟨rfl, show opcodeLength 0x8C = 3 by decide⟩
theorem tax : Statement (.tax) :=
  ⟨rfl, show opcodeLength 0xAA = 1 by decide⟩
theorem tay : Statement (.tay) :=
  ⟨rfl, show opcodeLength 0xA8 = 1 by decide⟩
theorem txa : Statement (.txa) :=
  ⟨rfl, show opcodeLength 0x8A = 1 by decide⟩
theorem tya : Statement (.tya) :=
  ⟨rfl, show opcodeLength 0x98 = 1 by decide⟩
theorem andImm (ii : Byte) : Statement (.andImm ii) :=
  ⟨rfl, show opcodeLength 0x29 = 2 by decide⟩
theorem andZp (zz : Byte) : Statement (.andZp zz) :=
  ⟨rfl, show opcodeLength 0x25 = 2 by decide⟩
theorem andZpx (zz : Byte) : Statement (.andZpx zz) :=
  ⟨rfl, show opcodeLength 0x35 = 2 by decide⟩
theorem andAbs (hhll : Word) : Statement (.andAbs hhll) :=
  ⟨rfl, show opcodeLength 0x2D = 3 by decide⟩
theorem andAbsx (hhll : Word) : Statement (.andAbsx hhll) :=
  ⟨rfl, show opcodeLength 0x3D = 3 by decide⟩
theorem andAbsy (hhll : Word) : Statement (.andAbsy hhll) :=
  ⟨rfl, show opcodeLength 0x39 = 3 by decide⟩
theorem andIzx (zz : Byte) : Statement (.andIzx zz) :=
  ⟨rfl, show opcodeLength 0x21 = 2 by decide⟩
theorem andIzy (zz : Byte) : Statement (.andIzy zz) :=
  ⟨rfl, show opcodeLength 0x31 = 2 by decide⟩
theorem oraImm (ii : Byte) : Statement (.oraImm ii) :=
  ⟨rfl, show opcodeLength 0x09 = 2 by decide⟩
theorem oraZp (zz : Byte) : Statement (.oraZp zz) :=
  ⟨rfl, show opcodeLength 0x05 = 2 by decide⟩
theorem oraZpx (zz : Byte) : Statement (.oraZpx zz) :=
  ⟨rfl, show opcodeLength 0x15 = 2 by decide⟩
theorem oraAbs (hhll : Word) : Statement (.oraAbs hhll) :=
  ⟨rfl, show opcodeLength 0x0D = 3 by decide⟩
theorem oraAbsx (hhll : Word) : Statement (.oraAbsx hhll) :=
  ⟨rfl, show opcodeLength 0x1D = 3 by decide⟩
theorem oraAbsy (hhll : Word) : Statement (.oraAbsy hhll) :=
  ⟨rfl, show opcodeLength 0x19 = 3 by decide⟩
theorem oraIzx (zz : Byte) : Statement (.oraIzx zz) :=
  ⟨rfl, show opcodeLength 0x01 = 2 by decide⟩
theorem oraIzy (zz : Byte) : Statement (.oraIzy zz) :=
  ⟨rfl, show opcodeLength 0x11 = 2 by decide⟩
theorem eorImm (ii : Byte) : Statement (.eorImm ii) :=
  ⟨rfl, show opcodeLength 0x49 = 2 by decide⟩
theorem eorZp (zz : Byte) : Statement (.eorZp zz) :=
  ⟨rfl, show opcodeLength 0x45 = 2 by decide⟩
theorem eorZpx (zz : Byte) : Statement (.eorZpx zz) :=
  ⟨rfl, show opcodeLength 0x55 = 2 by decide⟩
theorem eorAbs (hhll : Word) : Statement (.eorAbs hhll) :=
  ⟨rfl, show opcodeLength 0x4D = 3 by decide⟩
theorem eorAbsx (hhll : Word) : Statement (.eorAbsx hhll) :=
  ⟨rfl, show opcodeLength 0x5D = 3 by decide⟩
theorem eorAbsy (hhll : Word) : Statement (.eorAbsy hhll) :=
  ⟨rfl, show opcodeLength 0x59 = 3 by decide⟩
theorem eorIzx (zz : Byte) : Statement (.eorIzx zz) :=
  ⟨rfl, show opcodeLength 0x41 = 2 by decide⟩
theorem eorIzy (zz : Byte) : Statement (.eorIzy zz) :=
  ⟨rfl, show opcodeLength 0x51 = 2 by decide⟩
theorem bitZp (zz : Byte) : Statement (.bitZp zz) :=
  ⟨rfl, show opcodeLength 0x24 = 2 by decide⟩
theorem bitAbs (hhll : Word) : Statement (.bitAbs hhll) :=
  ⟨rfl, show opcodeLength 0x2C = 3 by decide⟩
theorem clc : Statement (.clc) :=
  ⟨rfl, show opcodeLength 0x18 = 1 by decide⟩
theorem sec : Statement (.sec) :=
  ⟨rfl, show opcodeLength 0x38 = 1 by decide⟩
theorem cli : Statement (.cli) :=
  ⟨rfl, show opcodeLength 0x58 = 1 by decide⟩
theorem sei : Statement (.sei) :=
  ⟨rfl, show opcodeLength 0x78 = 1 by decide⟩
theorem cld : Statement (.cld) :=
  ⟨rfl, show opcodeLength 0xD8 = 1 by decide⟩
theorem sed : Statement (.sed) :=
  ⟨rfl, show opcodeLength 0xF8 = 1 by decide⟩
theorem clv : Statement (.clv) :=
  ⟨rfl, show opcodeLength 0xB8 = 1 by decide⟩
theorem nop : Statement (.nop) :=
  ⟨rfl, show opcodeLength 0xEA = 1 by decide⟩
theorem sloZp (zz : Byte) : Statement (.sloZp zz) :=
  ⟨rfl, show opcodeLength 0x07 = 2 by decide⟩
theorem sloZpx (zz : Byte) : Statement (.sloZpx zz) :=
  ⟨rfl, show opcodeLength 0x17 = 2 by decide⟩
theorem sloAbs (hhll : Word) : Statement (.sloAbs hhll) :=
  ⟨rfl, show opcodeLength 0x0F = 3 by decide⟩
theorem sloAbsx (hhll : Word) : Statement (.sloAbsx hhll) :=
  ⟨rfl, show opcodeLength 0x1F = 3 by decide⟩
theorem sloAbsy (hhll : Word) : Statement (.sloAbsy hhll) :=
  ⟨rfl, show opcodeLength 0x1B = 3 by decide⟩
theorem sloIzx (zz : Byte) : Statement (.sloIzx zz) :=
  ⟨rfl, show opcodeLength 0x03 = 2 by decide⟩
theorem sloIzy (zz : Byte) : Statement (.sloIzy zz) :=
  ⟨rfl, show opcodeLength 0x13 = 2 by decide⟩
theorem rlaZp (zz : Byte) : Statement (.rlaZp zz) :=
  ⟨rfl, show opcodeLength 0x27 = 2 by decide⟩
theorem rlaZpx (zz : Byte) : Statement (.rlaZpx zz) :=
  ⟨rfl, show opcodeLength 0x37 = 2 by decide⟩
theorem rlaAbs (hhll : Word) : Statement (.rlaAbs hhll) :=
  ⟨rfl, show opcodeLength 0x2F = 3 by decide⟩
theorem rlaAbsx (hhll : Word) : Statement (.rlaAbsx hhll) :=
  ⟨rfl, show opcodeLength 0x3F = 3 by decide⟩
theorem rlaAbsy (hhll : Word) : Statement (.rlaAbsy hhll) :=
  ⟨rfl, show opcodeLength 0x3B = 3 by decide⟩
theorem rlaIzx (zz : Byte) : Statement (.rlaIzx zz) :=
  ⟨rfl, show opcodeLength 0x23 = 2 by decide⟩
theorem rlaIzy (zz : Byte) : Statement (.rlaIzy zz) :=
  ⟨rfl, show opcodeLength 0x33 = 2 by decide⟩
theorem sreZp (zz : Byte) : Statement (.sreZp zz) :=
  ⟨rfl, show opcodeLength 0x47 = 2 by decide⟩
theorem sreZpx (zz : Byte) : Statement (.sreZpx zz) :=
  ⟨rfl, show opcodeLength 0x57 = 2 by decide⟩
theorem sreAbs (hhll : Word) : Statement (.sreAbs hhll) :=
  ⟨rfl, show opcodeLength 0x4F = 3 by decide⟩
theorem sreAbsx (hhll : Word) : Statement (.sreAbsx hhll) :=
  ⟨rfl, show opcodeLength 0x5F = 3 by decide⟩
theorem sreAbsy (hhll : Word) : Statement (.sreAbsy hhll) :=
  ⟨rfl, show opcodeLength 0x5B = 3 by decide⟩
theorem sreIzx (zz : Byte) : Statement (.sreIzx zz) :=
  ⟨rfl, show opcodeLength 0x43 = 2 by decide⟩
theorem sreIzy (zz : Byte) : Statement (.sreIzy zz) :=
  ⟨rfl, show opcodeLength 0x53 = 2 by decide⟩
theorem rraZp (zz : Byte) : Statement (.rraZp zz) :=
  ⟨rfl, show opcodeLength 0x67 = 2 by decide⟩
theorem rraZpx (zz : Byte) : Statement (.rraZpx zz) :=
  ⟨rfl, show opcodeLength 0x77 = 2 by decide⟩
theorem rraAbs (hhll : Word) : Statement (.rraAbs hhll) :=
  ⟨rfl, show opcodeLength 0x6F = 3 by decide⟩
theorem rraAbsx (hhll : Word) : Statement (.rraAbsx hhll) :=
  ⟨rfl, show opcodeLength 0x7F = 3 by decide⟩
theorem rraAbsy (hhll : Word) : Statement (.rraAbsy hhll) :=
  ⟨rfl, show opcodeLength 0x7B = 3 by decide⟩
theorem rraIzx (zz : Byte) : Statement (.rraIzx zz) :=
  ⟨rfl, show opcodeLength 0x63 = 2 by decide⟩
theorem rraIzy (zz : Byte) : Statement (.rraIzy zz) :=
  ⟨rfl, show opcodeLength 0x73 = 2 by decide⟩
theorem dcpZp (zz : Byte) : Statement (.dcpZp zz) :=
  ⟨rfl, show opcodeLength 0xC7 = 2 by decide⟩
theorem dcpZpx (zz : Byte) : Statement (.dcpZpx zz) :=
  ⟨rfl, show opcodeLength 0xD7 = 2 by decide⟩
theorem dcpAbs (hhll : Word) : Statement (.dcpAbs hhll) :=
  ⟨rfl, show opcodeLength 0xCF = 3 by decide⟩
theorem dcpAbsx (hhll : Word) : Statement (.dcpAbsx hhll) :=
  ⟨rfl, show opcodeLength 0xDF = 3 by decide⟩
theorem dcpAbsy (hhll : Word) : Statement (.dcpAbsy hhll) :=
  ⟨rfl, show opcodeLength 0xDB = 3 by decide⟩
theorem dcpIzx (zz : Byte) : Statement (.dcpIzx zz) :=
  ⟨rfl, show opcodeLength 0xC3 = 2 by decide⟩
theorem dcpIzy (zz : Byte) : Statement (.dcpIzy zz) :=
  ⟨rfl, show opcodeLength 0xD3 = 2 by decide⟩
theorem iscZp (zz : Byte) : Statement (.iscZp zz) :=
  ⟨rfl, show opcodeLength 0xE7 = 2 by decide⟩
theorem iscZpx (zz : Byte) : Statement (.iscZpx zz) :=
  ⟨rfl, show opcodeLength 0xF7 = 2 by decide⟩
theorem iscAbs (hhll : Word) : Statement (.iscAbs hhll) :=
  ⟨rfl, show opcodeLength 0xEF = 3 by decide⟩
theorem iscAbsx (hhll : Word) : Statement (.iscAbsx hhll) :=
  ⟨rfl, show opcodeLength 0xFF = 3 by decide⟩
theorem iscAbsy (hhll : Word) : Statement (.iscAbsy hhll) :=
  ⟨rfl, show opcodeLength 0xFB = 3 by decide⟩
theorem iscIzx (zz : Byte) : Statement (.iscIzx zz) :=
  ⟨rfl, show opcodeLength 0xE3 = 2 by decide⟩
theorem iscIzy (zz : Byte) : Statement (.iscIzy zz) :=
  ⟨rfl, show opcodeLength 0xF3 = 2 by decide⟩
theorem saxZp (zz : Byte) : Statement (.saxZp zz) :=
  ⟨rfl, show opcodeLength 0x87 = 2 by decide⟩
theorem saxZpy (zz : Byte) : Statement (.saxZpy zz) :=
  ⟨rfl, show opcodeLength 0x97 = 2 by decide⟩
theorem saxAbs (hhll : Word) : Statement (.saxAbs hhll) :=
  ⟨rfl, show opcodeLength 0x8F = 3 by decide⟩
theorem saxIzx (zz : Byte) : Statement (.saxIzx zz) :=
  ⟨rfl, show opcodeLength 0x83 = 2 by decide⟩
theorem laxZp (zz : Byte) : Statement (.laxZp zz) :=
  ⟨rfl, show opcodeLength 0xA7 = 2 by decide⟩
theorem laxZpy (zz : Byte) : Statement (.laxZpy zz) :=
  ⟨rfl, show opcodeLength 0xB7 = 2 by decide⟩
theorem laxAbs (hhll : Word) : Statement (.laxAbs hhll) :=
  ⟨rfl, show opcodeLength 0xAF = 3 by decide⟩
theorem laxAbsy (hhll : Word) : Statement (.laxAbsy hhll) :=
  ⟨rfl, show opcodeLength 0xBF = 3 by decide⟩
theorem laxIzx (zz : Byte) : Statement (.laxIzx zz) :=
  ⟨rfl, show opcodeLength 0xA3 = 2 by decide⟩
theorem laxIzy (zz : Byte) : Statement (.laxIzy zz) :=
  ⟨rfl, show opcodeLength 0xB3 = 2 by decide⟩
theorem ancImm0B (ii : Byte) : Statement (.ancImm0B ii) :=
  ⟨rfl, show opcodeLength 0x0B = 2 by decide⟩
theorem ancImm2B (ii : Byte) : Statement (.ancImm2B ii) :=
  ⟨rfl, show opcodeLength 0x2B = 2 by decide⟩
theorem alrImm (ii : Byte) : Statement (.alrImm ii) :=
  ⟨rfl, show opcodeLength 0x4B = 2 by decide⟩
theorem arrImm (ii : Byte) : Statement (.arrImm ii) :=
  ⟨rfl, show opcodeLength 0x6B = 2 by decide⟩
theorem xaaImm (ii : Byte) : Statement (.xaaImm ii) :=
  ⟨rfl, show opcodeLength 0x8B = 2 by decide⟩
theorem lxaImm (ii : Byte) : Statement (.lxaImm ii) :=
  ⟨rfl, show opcodeLength 0xAB = 2 by decide⟩
theorem sbxImm (ii : Byte) : Statement (.sbxImm ii) :=
  ⟨rfl, show opcodeLength 0xCB = 2 by decide⟩
theorem sbcImmEB (ii : Byte) : Statement (.sbcImmEB ii) :=
  ⟨rfl, show opcodeLength 0xEB = 2 by decide⟩
theorem lasAbsy (hhll : Word) : Statement (.lasAbsy hhll) :=
  ⟨rfl, show opcodeLength 0xBB = 3 by decide⟩
theorem shaAbsy (hhll : Word) : Statement (.shaAbsy hhll) :=
  ⟨rfl, show opcodeLength 0x9F = 3 by decide⟩
theorem shaIzy (zz : Byte) : Statement (.shaIzy zz) :=
  ⟨rfl, show opcodeLength 0x93 = 2 by decide⟩
theorem shxAbsy (hhll : Word) : Statement (.shxAbsy hhll) :=
  ⟨rfl, show opcodeLength 0x9E = 3 by decide⟩
theorem shyAbsx (hhll : Word) : Statement (.shyAbsx hhll) :=
  ⟨rfl, show opcodeLength 0x9C = 3 by decide⟩
theorem tasAbsy (hhll : Word) : Statement (.tasAbsy hhll) :=
  ⟨rfl, show opcodeLength 0x9B = 3 by decide⟩
theorem nopImp1A : Statement (.nopImp1A) :=
  ⟨rfl, show opcodeLength 0x1A = 1 by decide⟩
theorem nopImp3A : Statement (.nopImp3A) :=
  ⟨rfl, show opcodeLength 0x3A = 1 by decide⟩
theorem nopImp5A : Statement (.nopImp5A) :=
  ⟨rfl, show opcodeLength 0x5A = 1 by decide⟩
theorem nopImp7A : Statement (.nopImp7A) :=
  ⟨rfl, show opcodeLength 0x7A = 1 by decide⟩
theorem nopImpDA : Statement (.nopImpDA) :=
  ⟨rfl, show opcodeLength 0xDA = 1 by decide⟩
theorem nopImpFA : Statement (.nopImpFA) :=
  ⟨rfl, show opcodeLength 0xFA = 1 by decide⟩
theorem nopImm80 (ii : Byte) : Statement (.nopImm80 ii) :=
  ⟨rfl, show opcodeLength 0x80 = 2 by decide⟩
theorem nopImm82 (ii : Byte) : Statement (.nopImm82 ii) :=
  ⟨rfl, show opcodeLength 0x82 = 2 by decide⟩
theorem nopImm89 (ii : Byte) : Statement (.nopImm89 ii) :=
  ⟨rfl, show opcodeLength 0x89 = 2 by decide⟩
theorem nopImmC2 (ii : Byte) : Statement (.nopImmC2 ii) :=
  ⟨rfl, show opcodeLength 0xC2 = 2 by decide⟩
theorem nopImmE2 (ii : Byte) : Statement (.nopImmE2 ii) :=
  ⟨rfl, show opcodeLength 0xE2 = 2 by decide⟩
theorem nopZp04 (zz : Byte) : Statement (.nopZp04 zz) :=
  ⟨rfl, show opcodeLength 0x04 = 2 by decide⟩
theorem nopZp44 (zz : Byte) : Statement (.nopZp44 zz) :=
  ⟨rfl, show opcodeLength 0x44 = 2 by decide⟩
theorem nopZp64 (zz : Byte) : Statement (.nopZp64 zz) :=
  ⟨rfl, show opcodeLength 0x64 = 2 by decide⟩
theorem nopZpx14 (zz : Byte) : Statement (.nopZpx14 zz) :=
  ⟨rfl, show opcodeLength 0x14 = 2 by decide⟩
theorem nopZpx34 (zz : Byte) : Statement (.nopZpx34 zz) :=
  ⟨rfl, show opcodeLength 0x34 = 2 by decide⟩
theorem nopZpx54 (zz : Byte) : Statement (.nopZpx54 zz) :=
  ⟨rfl, show opcodeLength 0x54 = 2 by decide⟩
theorem nopZpx74 (zz : Byte) : Statement (.nopZpx74 zz) :=
  ⟨rfl, show opcodeLength 0x74 = 2 by decide⟩
theorem nopZpxD4 (zz : Byte) : Statement (.nopZpxD4 zz) :=
  ⟨rfl, show opcodeLength 0xD4 = 2 by decide⟩
theorem nopZpxF4 (zz : Byte) : Statement (.nopZpxF4 zz) :=
  ⟨rfl, show opcodeLength 0xF4 = 2 by decide⟩
theorem nopAbs0C (hhll : Word) : Statement (.nopAbs0C hhll) :=
  ⟨rfl, show opcodeLength 0x0C = 3 by decide⟩
theorem nopAbsx1C (hhll : Word) : Statement (.nopAbsx1C hhll) :=
  ⟨rfl, show opcodeLength 0x1C = 3 by decide⟩
theorem nopAbsx3C (hhll : Word) : Statement (.nopAbsx3C hhll) :=
  ⟨rfl, show opcodeLength 0x3C = 3 by decide⟩
theorem nopAbsx5C (hhll : Word) : Statement (.nopAbsx5C hhll) :=
  ⟨rfl, show opcodeLength 0x5C = 3 by decide⟩
theorem nopAbsx7C (hhll : Word) : Statement (.nopAbsx7C hhll) :=
  ⟨rfl, show opcodeLength 0x7C = 3 by decide⟩
theorem nopAbsxDC (hhll : Word) : Statement (.nopAbsxDC hhll) :=
  ⟨rfl, show opcodeLength 0xDC = 3 by decide⟩
theorem nopAbsxFC (hhll : Word) : Statement (.nopAbsxFC hhll) :=
  ⟨rfl, show opcodeLength 0xFC = 3 by decide⟩
theorem jam02 : Statement (.jam02) :=
  ⟨rfl, show opcodeLength 0x02 = 1 by decide⟩
theorem jam12 : Statement (.jam12) :=
  ⟨rfl, show opcodeLength 0x12 = 1 by decide⟩
theorem jam22 : Statement (.jam22) :=
  ⟨rfl, show opcodeLength 0x22 = 1 by decide⟩
theorem jam32 : Statement (.jam32) :=
  ⟨rfl, show opcodeLength 0x32 = 1 by decide⟩
theorem jam42 : Statement (.jam42) :=
  ⟨rfl, show opcodeLength 0x42 = 1 by decide⟩
theorem jam52 : Statement (.jam52) :=
  ⟨rfl, show opcodeLength 0x52 = 1 by decide⟩
theorem jam62 : Statement (.jam62) :=
  ⟨rfl, show opcodeLength 0x62 = 1 by decide⟩
theorem jam72 : Statement (.jam72) :=
  ⟨rfl, show opcodeLength 0x72 = 1 by decide⟩
theorem jam92 : Statement (.jam92) :=
  ⟨rfl, show opcodeLength 0x92 = 1 by decide⟩
theorem jamB2 : Statement (.jamB2) :=
  ⟨rfl, show opcodeLength 0xB2 = 1 by decide⟩
theorem jamD2 : Statement (.jamD2) :=
  ⟨rfl, show opcodeLength 0xD2 = 1 by decide⟩
theorem jamF2 : Statement (.jamF2) :=
  ⟨rfl, show opcodeLength 0xF2 = 1 by decide⟩

end Sys2Proof.Laws.EncodedLength
end

