-- ==== Sys2Proof/Laws/Step.lean ====
section
/-! SUPPORT. What a step can do, said once: it fetches an instruction and runs its meaning, or it stops. -/

namespace Sys2Proof.Machine

/-- PC is always inside the address space (40_engine.md R91). -/
theorem State.pc_inBounds (s : State) : ¬ 65536 ≤ s.pc.toNat := by
  have := s.pc.isLt
  omega

/-- A step that answers a next state ran the meaning of the instruction it fetched. -/
theorem step_next_inv {s t : State} (h : step s = .next t) : ∃ i, s.fetch = .ok i ∧ exec i s = .next t := by
  unfold step at h
  split at h
  · next i hi => exact ⟨i, hi, h⟩
  · cases h

/-- When the fetch answers an instruction, the step is its meaning. -/
theorem step_of_fetch {s : State} {i : Instr} (h : s.fetch = .ok i) : step s = exec i s := by
  simp [step, h]

/-- The fetch of an instruction is the decoding of the bytes its opcode asks for. -/
theorem State.fetch_of_decode {s : State} {i : Instr} {left : List Byte} (h : decode s.fetchBytes = .ok (i, left)) :
    s.fetch = .ok i := by
  simp [State.fetch, s.pc_inBounds, h]

end Sys2Proof.Machine
end

