-- ==== Sys2Proof/Tests/Slice0.lean ====
section
/-! SUPPORT. Tests: the checks of WellFormed, the decoding of words written out from the opcode map of 30_encoding.md R75,
one step of each instruction against the vectors of 95_test_vectors.md (their names stand in the comments), and a
witness for each obligation that has hypotheses or clauses. -/

namespace Sys2Proof.Tests

open Sys2Proof Sys2Proof.Machine Sys2Proof.Stating

/-! ### WellFormed: a term that each check refuses -/

/-- LDA's opcode under STA's tag. -/
theorem test_mnemonicOk_refuses : Descriptor.mnemonicOk ⟨0xA9, .sta, .imm 0x00⟩ = false := by decide

/-- LDA immediate's opcode with a zero-page operand. -/
theorem test_formatOk_refuses : Descriptor.formatOk ⟨0xA9, .lda, .mem (.zp 0x00)⟩ = false := by decide

theorem test_wellFormed_refuses_tag : Descriptor.wellFormed ⟨0xA9, .sta, .imm 0x00⟩ = false := by decide

theorem test_wellFormed_refuses_format : Descriptor.wellFormed ⟨0xA9, .lda, .mem (.zp 0x00)⟩ = false := by decide

theorem test_wellFormed_accepts : (Instr.ldaImm 0x10).wellFormed = true := by decide

/-! ### Decoding -/

/-- The bytes decode to the instruction with nothing left. -/
def reads (bytes : List Byte) (i : Instr) : Bool := decode bytes == .ok (i, [])

/-- R75, row 0x. -/
theorem test_decode_row_0 :
    (reads [0x00, 0x9A] (.brk 0x9A) && reads [0x01, 0x9A] (.oraIzx 0x9A) &&
      reads [0x02] .jam02 && reads [0x03, 0x9A] (.sloIzx 0x9A) &&
      reads [0x04, 0x9A] (.nopZp04 0x9A) && reads [0x05, 0x9A] (.oraZp 0x9A) &&
      reads [0x06, 0x9A] (.aslZp 0x9A) && reads [0x07, 0x9A] (.sloZp 0x9A) &&
      reads [0x08] .php && reads [0x09, 0x9A] (.oraImm 0x9A) &&
      reads [0x0A] .aslAcc && reads [0x0B, 0x9A] (.ancImm0B 0x9A) &&
      reads [0x0C, 0xCD, 0xAB] (.nopAbs0C 0xABCD) && reads [0x0D, 0xCD, 0xAB] (.oraAbs 0xABCD) &&
      reads [0x0E, 0xCD, 0xAB] (.aslAbs 0xABCD) && reads [0x0F, 0xCD, 0xAB] (.sloAbs 0xABCD)) = true := by decide

/-- R75, row 1x. -/
theorem test_decode_row_1 :
    (reads [0x10, 0x9A] (.bpl 0x9A) && reads [0x11, 0x9A] (.oraIzy 0x9A) &&
      reads [0x12] .jam12 && reads [0x13, 0x9A] (.sloIzy 0x9A) &&
      reads [0x14, 0x9A] (.nopZpx14 0x9A) && reads [0x15, 0x9A] (.oraZpx 0x9A) &&
      reads [0x16, 0x9A] (.aslZpx 0x9A) && reads [0x17, 0x9A] (.sloZpx 0x9A) &&
      reads [0x18] .clc && reads [0x19, 0xCD, 0xAB] (.oraAbsy 0xABCD) &&
      reads [0x1A] .nopImp1A && reads [0x1B, 0xCD, 0xAB] (.sloAbsy 0xABCD) &&
      reads [0x1C, 0xCD, 0xAB] (.nopAbsx1C 0xABCD) && reads [0x1D, 0xCD, 0xAB] (.oraAbsx 0xABCD) &&
      reads [0x1E, 0xCD, 0xAB] (.aslAbsx 0xABCD) && reads [0x1F, 0xCD, 0xAB] (.sloAbsx 0xABCD)) = true := by decide

/-- R75, row 2x. -/
theorem test_decode_row_2 :
    (reads [0x20, 0xCD, 0xAB] (.jsrAbs 0xABCD) && reads [0x21, 0x9A] (.andIzx 0x9A) &&
      reads [0x22] .jam22 && reads [0x23, 0x9A] (.rlaIzx 0x9A) &&
      reads [0x24, 0x9A] (.bitZp 0x9A) && reads [0x25, 0x9A] (.andZp 0x9A) &&
      reads [0x26, 0x9A] (.rolZp 0x9A) && reads [0x27, 0x9A] (.rlaZp 0x9A) &&
      reads [0x28] .plp && reads [0x29, 0x9A] (.andImm 0x9A) &&
      reads [0x2A] .rolAcc && reads [0x2B, 0x9A] (.ancImm2B 0x9A) &&
      reads [0x2C, 0xCD, 0xAB] (.bitAbs 0xABCD) && reads [0x2D, 0xCD, 0xAB] (.andAbs 0xABCD) &&
      reads [0x2E, 0xCD, 0xAB] (.rolAbs 0xABCD) && reads [0x2F, 0xCD, 0xAB] (.rlaAbs 0xABCD)) = true := by decide

/-- R75, row 3x. -/
theorem test_decode_row_3 :
    (reads [0x30, 0x9A] (.bmi 0x9A) && reads [0x31, 0x9A] (.andIzy 0x9A) &&
      reads [0x32] .jam32 && reads [0x33, 0x9A] (.rlaIzy 0x9A) &&
      reads [0x34, 0x9A] (.nopZpx34 0x9A) && reads [0x35, 0x9A] (.andZpx 0x9A) &&
      reads [0x36, 0x9A] (.rolZpx 0x9A) && reads [0x37, 0x9A] (.rlaZpx 0x9A) &&
      reads [0x38] .sec && reads [0x39, 0xCD, 0xAB] (.andAbsy 0xABCD) &&
      reads [0x3A] .nopImp3A && reads [0x3B, 0xCD, 0xAB] (.rlaAbsy 0xABCD) &&
      reads [0x3C, 0xCD, 0xAB] (.nopAbsx3C 0xABCD) && reads [0x3D, 0xCD, 0xAB] (.andAbsx 0xABCD) &&
      reads [0x3E, 0xCD, 0xAB] (.rolAbsx 0xABCD) && reads [0x3F, 0xCD, 0xAB] (.rlaAbsx 0xABCD)) = true := by decide

/-- R75, row 4x. -/
theorem test_decode_row_4 :
    (reads [0x40] .rti && reads [0x41, 0x9A] (.eorIzx 0x9A) &&
      reads [0x42] .jam42 && reads [0x43, 0x9A] (.sreIzx 0x9A) &&
      reads [0x44, 0x9A] (.nopZp44 0x9A) && reads [0x45, 0x9A] (.eorZp 0x9A) &&
      reads [0x46, 0x9A] (.lsrZp 0x9A) && reads [0x47, 0x9A] (.sreZp 0x9A) &&
      reads [0x48] .pha && reads [0x49, 0x9A] (.eorImm 0x9A) &&
      reads [0x4A] .lsrAcc && reads [0x4B, 0x9A] (.alrImm 0x9A) &&
      reads [0x4C, 0xCD, 0xAB] (.jmpAbs 0xABCD) && reads [0x4D, 0xCD, 0xAB] (.eorAbs 0xABCD) &&
      reads [0x4E, 0xCD, 0xAB] (.lsrAbs 0xABCD) && reads [0x4F, 0xCD, 0xAB] (.sreAbs 0xABCD)) = true := by decide

/-- R75, row 5x. -/
theorem test_decode_row_5 :
    (reads [0x50, 0x9A] (.bvc 0x9A) && reads [0x51, 0x9A] (.eorIzy 0x9A) &&
      reads [0x52] .jam52 && reads [0x53, 0x9A] (.sreIzy 0x9A) &&
      reads [0x54, 0x9A] (.nopZpx54 0x9A) && reads [0x55, 0x9A] (.eorZpx 0x9A) &&
      reads [0x56, 0x9A] (.lsrZpx 0x9A) && reads [0x57, 0x9A] (.sreZpx 0x9A) &&
      reads [0x58] .cli && reads [0x59, 0xCD, 0xAB] (.eorAbsy 0xABCD) &&
      reads [0x5A] .nopImp5A && reads [0x5B, 0xCD, 0xAB] (.sreAbsy 0xABCD) &&
      reads [0x5C, 0xCD, 0xAB] (.nopAbsx5C 0xABCD) && reads [0x5D, 0xCD, 0xAB] (.eorAbsx 0xABCD) &&
      reads [0x5E, 0xCD, 0xAB] (.lsrAbsx 0xABCD) && reads [0x5F, 0xCD, 0xAB] (.sreAbsx 0xABCD)) = true := by decide

/-- R75, row 6x. -/
theorem test_decode_row_6 :
    (reads [0x60] .rts && reads [0x61, 0x9A] (.adcIzx 0x9A) &&
      reads [0x62] .jam62 && reads [0x63, 0x9A] (.rraIzx 0x9A) &&
      reads [0x64, 0x9A] (.nopZp64 0x9A) && reads [0x65, 0x9A] (.adcZp 0x9A) &&
      reads [0x66, 0x9A] (.rorZp 0x9A) && reads [0x67, 0x9A] (.rraZp 0x9A) &&
      reads [0x68] .pla && reads [0x69, 0x9A] (.adcImm 0x9A) &&
      reads [0x6A] .rorAcc && reads [0x6B, 0x9A] (.arrImm 0x9A) &&
      reads [0x6C, 0xCD, 0xAB] (.jmpInd 0xABCD) && reads [0x6D, 0xCD, 0xAB] (.adcAbs 0xABCD) &&
      reads [0x6E, 0xCD, 0xAB] (.rorAbs 0xABCD) && reads [0x6F, 0xCD, 0xAB] (.rraAbs 0xABCD)) = true := by decide

/-- R75, row 7x. -/
theorem test_decode_row_7 :
    (reads [0x70, 0x9A] (.bvs 0x9A) && reads [0x71, 0x9A] (.adcIzy 0x9A) &&
      reads [0x72] .jam72 && reads [0x73, 0x9A] (.rraIzy 0x9A) &&
      reads [0x74, 0x9A] (.nopZpx74 0x9A) && reads [0x75, 0x9A] (.adcZpx 0x9A) &&
      reads [0x76, 0x9A] (.rorZpx 0x9A) && reads [0x77, 0x9A] (.rraZpx 0x9A) &&
      reads [0x78] .sei && reads [0x79, 0xCD, 0xAB] (.adcAbsy 0xABCD) &&
      reads [0x7A] .nopImp7A && reads [0x7B, 0xCD, 0xAB] (.rraAbsy 0xABCD) &&
      reads [0x7C, 0xCD, 0xAB] (.nopAbsx7C 0xABCD) && reads [0x7D, 0xCD, 0xAB] (.adcAbsx 0xABCD) &&
      reads [0x7E, 0xCD, 0xAB] (.rorAbsx 0xABCD) && reads [0x7F, 0xCD, 0xAB] (.rraAbsx 0xABCD)) = true := by decide

/-- R75, row 8x. -/
theorem test_decode_row_8 :
    (reads [0x80, 0x9A] (.nopImm80 0x9A) && reads [0x81, 0x9A] (.staIzx 0x9A) &&
      reads [0x82, 0x9A] (.nopImm82 0x9A) && reads [0x83, 0x9A] (.saxIzx 0x9A) &&
      reads [0x84, 0x9A] (.styZp 0x9A) && reads [0x85, 0x9A] (.staZp 0x9A) &&
      reads [0x86, 0x9A] (.stxZp 0x9A) && reads [0x87, 0x9A] (.saxZp 0x9A) &&
      reads [0x88] .dey && reads [0x89, 0x9A] (.nopImm89 0x9A) &&
      reads [0x8A] .txa && reads [0x8B, 0x9A] (.xaaImm 0x9A) &&
      reads [0x8C, 0xCD, 0xAB] (.styAbs 0xABCD) && reads [0x8D, 0xCD, 0xAB] (.staAbs 0xABCD) &&
      reads [0x8E, 0xCD, 0xAB] (.stxAbs 0xABCD) && reads [0x8F, 0xCD, 0xAB] (.saxAbs 0xABCD)) = true := by decide

/-- R75, row 9x. -/
theorem test_decode_row_9 :
    (reads [0x90, 0x9A] (.bcc 0x9A) && reads [0x91, 0x9A] (.staIzy 0x9A) &&
      reads [0x92] .jam92 && reads [0x93, 0x9A] (.shaIzy 0x9A) &&
      reads [0x94, 0x9A] (.styZpx 0x9A) && reads [0x95, 0x9A] (.staZpx 0x9A) &&
      reads [0x96, 0x9A] (.stxZpy 0x9A) && reads [0x97, 0x9A] (.saxZpy 0x9A) &&
      reads [0x98] .tya && reads [0x99, 0xCD, 0xAB] (.staAbsy 0xABCD) &&
      reads [0x9A] .txs && reads [0x9B, 0xCD, 0xAB] (.tasAbsy 0xABCD) &&
      reads [0x9C, 0xCD, 0xAB] (.shyAbsx 0xABCD) && reads [0x9D, 0xCD, 0xAB] (.staAbsx 0xABCD) &&
      reads [0x9E, 0xCD, 0xAB] (.shxAbsy 0xABCD) && reads [0x9F, 0xCD, 0xAB] (.shaAbsy 0xABCD)) = true := by decide

/-- R75, row Ax. -/
theorem test_decode_row_A :
    (reads [0xA0, 0x9A] (.ldyImm 0x9A) && reads [0xA1, 0x9A] (.ldaIzx 0x9A) &&
      reads [0xA2, 0x9A] (.ldxImm 0x9A) && reads [0xA3, 0x9A] (.laxIzx 0x9A) &&
      reads [0xA4, 0x9A] (.ldyZp 0x9A) && reads [0xA5, 0x9A] (.ldaZp 0x9A) &&
      reads [0xA6, 0x9A] (.ldxZp 0x9A) && reads [0xA7, 0x9A] (.laxZp 0x9A) &&
      reads [0xA8] .tay && reads [0xA9, 0x9A] (.ldaImm 0x9A) &&
      reads [0xAA] .tax && reads [0xAB, 0x9A] (.lxaImm 0x9A) &&
      reads [0xAC, 0xCD, 0xAB] (.ldyAbs 0xABCD) && reads [0xAD, 0xCD, 0xAB] (.ldaAbs 0xABCD) &&
      reads [0xAE, 0xCD, 0xAB] (.ldxAbs 0xABCD) && reads [0xAF, 0xCD, 0xAB] (.laxAbs 0xABCD)) = true := by decide

/-- R75, row Bx. -/
theorem test_decode_row_B :
    (reads [0xB0, 0x9A] (.bcs 0x9A) && reads [0xB1, 0x9A] (.ldaIzy 0x9A) &&
      reads [0xB2] .jamB2 && reads [0xB3, 0x9A] (.laxIzy 0x9A) &&
      reads [0xB4, 0x9A] (.ldyZpx 0x9A) && reads [0xB5, 0x9A] (.ldaZpx 0x9A) &&
      reads [0xB6, 0x9A] (.ldxZpy 0x9A) && reads [0xB7, 0x9A] (.laxZpy 0x9A) &&
      reads [0xB8] .clv && reads [0xB9, 0xCD, 0xAB] (.ldaAbsy 0xABCD) &&
      reads [0xBA] .tsx && reads [0xBB, 0xCD, 0xAB] (.lasAbsy 0xABCD) &&
      reads [0xBC, 0xCD, 0xAB] (.ldyAbsx 0xABCD) && reads [0xBD, 0xCD, 0xAB] (.ldaAbsx 0xABCD) &&
      reads [0xBE, 0xCD, 0xAB] (.ldxAbsy 0xABCD) && reads [0xBF, 0xCD, 0xAB] (.laxAbsy 0xABCD)) = true := by decide

/-- R75, row Cx. -/
theorem test_decode_row_C :
    (reads [0xC0, 0x9A] (.cpyImm 0x9A) && reads [0xC1, 0x9A] (.cmpIzx 0x9A) &&
      reads [0xC2, 0x9A] (.nopImmC2 0x9A) && reads [0xC3, 0x9A] (.dcpIzx 0x9A) &&
      reads [0xC4, 0x9A] (.cpyZp 0x9A) && reads [0xC5, 0x9A] (.cmpZp 0x9A) &&
      reads [0xC6, 0x9A] (.decZp 0x9A) && reads [0xC7, 0x9A] (.dcpZp 0x9A) &&
      reads [0xC8] .iny && reads [0xC9, 0x9A] (.cmpImm 0x9A) &&
      reads [0xCA] .dex && reads [0xCB, 0x9A] (.sbxImm 0x9A) &&
      reads [0xCC, 0xCD, 0xAB] (.cpyAbs 0xABCD) && reads [0xCD, 0xCD, 0xAB] (.cmpAbs 0xABCD) &&
      reads [0xCE, 0xCD, 0xAB] (.decAbs 0xABCD) && reads [0xCF, 0xCD, 0xAB] (.dcpAbs 0xABCD)) = true := by decide

/-- R75, row Dx. -/
theorem test_decode_row_D :
    (reads [0xD0, 0x9A] (.bne 0x9A) && reads [0xD1, 0x9A] (.cmpIzy 0x9A) &&
      reads [0xD2] .jamD2 && reads [0xD3, 0x9A] (.dcpIzy 0x9A) &&
      reads [0xD4, 0x9A] (.nopZpxD4 0x9A) && reads [0xD5, 0x9A] (.cmpZpx 0x9A) &&
      reads [0xD6, 0x9A] (.decZpx 0x9A) && reads [0xD7, 0x9A] (.dcpZpx 0x9A) &&
      reads [0xD8] .cld && reads [0xD9, 0xCD, 0xAB] (.cmpAbsy 0xABCD) &&
      reads [0xDA] .nopImpDA && reads [0xDB, 0xCD, 0xAB] (.dcpAbsy 0xABCD) &&
      reads [0xDC, 0xCD, 0xAB] (.nopAbsxDC 0xABCD) && reads [0xDD, 0xCD, 0xAB] (.cmpAbsx 0xABCD) &&
      reads [0xDE, 0xCD, 0xAB] (.decAbsx 0xABCD) && reads [0xDF, 0xCD, 0xAB] (.dcpAbsx 0xABCD)) = true := by decide

/-- R75, row Ex. -/
theorem test_decode_row_E :
    (reads [0xE0, 0x9A] (.cpxImm 0x9A) && reads [0xE1, 0x9A] (.sbcIzx 0x9A) &&
      reads [0xE2, 0x9A] (.nopImmE2 0x9A) && reads [0xE3, 0x9A] (.iscIzx 0x9A) &&
      reads [0xE4, 0x9A] (.cpxZp 0x9A) && reads [0xE5, 0x9A] (.sbcZp 0x9A) &&
      reads [0xE6, 0x9A] (.incZp 0x9A) && reads [0xE7, 0x9A] (.iscZp 0x9A) &&
      reads [0xE8] .inx && reads [0xE9, 0x9A] (.sbcImm 0x9A) &&
      reads [0xEA] .nop && reads [0xEB, 0x9A] (.sbcImmEB 0x9A) &&
      reads [0xEC, 0xCD, 0xAB] (.cpxAbs 0xABCD) && reads [0xED, 0xCD, 0xAB] (.sbcAbs 0xABCD) &&
      reads [0xEE, 0xCD, 0xAB] (.incAbs 0xABCD) && reads [0xEF, 0xCD, 0xAB] (.iscAbs 0xABCD)) = true := by decide

/-- R75, row Fx. -/
theorem test_decode_row_F :
    (reads [0xF0, 0x9A] (.beq 0x9A) && reads [0xF1, 0x9A] (.sbcIzy 0x9A) &&
      reads [0xF2] .jamF2 && reads [0xF3, 0x9A] (.iscIzy 0x9A) &&
      reads [0xF4, 0x9A] (.nopZpxF4 0x9A) && reads [0xF5, 0x9A] (.sbcZpx 0x9A) &&
      reads [0xF6, 0x9A] (.incZpx 0x9A) && reads [0xF7, 0x9A] (.iscZpx 0x9A) &&
      reads [0xF8] .sed && reads [0xF9, 0xCD, 0xAB] (.sbcAbsy 0xABCD) &&
      reads [0xFA] .nopImpFA && reads [0xFB, 0xCD, 0xAB] (.iscAbsy 0xABCD) &&
      reads [0xFC, 0xCD, 0xAB] (.nopAbsxFC 0xABCD) && reads [0xFD, 0xCD, 0xAB] (.sbcAbsx 0xABCD) &&
      reads [0xFE, 0xCD, 0xAB] (.incAbsx 0xABCD) && reads [0xFF, 0xCD, 0xAB] (.iscAbsx 0xABCD)) = true := by decide

/-! One word of each family, bit by bit from the `encoding` column of opcode_table.json. -/

/-- ADC imm: 01101001 iiiiiiii. -/
theorem test_bits_arithmetic : reads [0b01101001, 0b00010000] (.adcImm 0x10) = true := by decide

/-- ASL A: 00001010. -/
theorem test_bits_shift : reads [0b00001010] .aslAcc = true := by decide

/-- INC zpx: 11110110 zzzzzzzz. -/
theorem test_bits_incdec : reads [0b11110110, 0b11111111] (.incZpx 0xFF) = true := by decide

/-- BNE rel: 11010000 dddddddd. -/
theorem test_bits_branch : reads [0b11010000, 0b11111000] (.bne 0xF8) = true := by decide

/-- PHA: 01001000. -/
theorem test_bits_stack : reads [0b01001000] .pha = true := by decide

/-- JMP ind: 01101100 llllllll hhhhhhhh. -/
theorem test_bits_jump : reads [0b01101100, 0b11111111, 0b00010000] (.jmpInd 0x10FF) = true := by decide

/-- LDA absx: 10111101 llllllll hhhhhhhh. -/
theorem test_bits_load : reads [0b10111101, 0b11110000, 0b00010010] (.ldaAbsx 0x12F0) = true := by decide

/-- BIT abs: 00101100 llllllll hhhhhhhh. -/
theorem test_bits_logic : reads [0b00101100, 0b00000000, 0b00010000] (.bitAbs 0x1000) = true := by decide

/-- SHY absx: 10011100 llllllll hhhhhhhh. -/
theorem test_bits_undocumented : reads [0b10011100, 0b00000000, 0b00000100] (.shyAbsx 0x0400) = true := by decide

theorem test_decode_nothing : decode [] = .error .truncated := by decide

/-- One byte too few for LDA abs. -/
theorem test_decode_short : decode [0xAD, 0x34] = .error .truncated := by decide

/-- Bit 0 of a table word is bit 0 of the first byte. -/
theorem test_decodeTableWord : decodeTableWord 24 0x12F0BD = some (.ldaAbsx 0x12F0) := by decide

/-- The bits above the row's own are 0: a row of 8 bits gives its operand bytes as zeros. -/
theorem test_decodeTableWord_short : decodeTableWord 8 0xFFBD = some (.ldaAbsx 0x0000) := by decide

theorem test_encode_low_byte_first : encode (.ldaAbsx 0x12F0) = [0xBD, 0xF0, 0x12] := by decide

/-! ### One step of each instruction

The state of a test is the constructed one with the listed registers, code and memory bytes; the result is the register
file after one step and up to three bytes of memory. Expected values: 95_test_vectors.md, by the vector named. -/

/-- The registers of a test's start, in the order A, X, Y, SP, PC, P of a snapshot. -/
def start (r : Snapshot) (code : List Byte) (cells : List (Word × Byte)) : State :=
  cells.foldl (fun s c => s.writeByte c.1 c.2)
    (State.load ⟨r.a, r.x, r.y, r.sp, r.pc, r.p, State.reset.mem⟩ code r.pc)

/-- One step answers Running, with these registers and these memory bytes. -/
def ends (s : State) (r : Snapshot) (cells : List (Word × Byte)) : Bool :=
  match step s with
  | .next t => t.snapshot == r && cells.all fun c => t.read c.1 == c.2
  | _ => false

/-- V41-2: ADC #$01. -/
theorem test_adc_V41_2 :
    ends (start ⟨0x7F, 0x00, 0x00, 0xFF, 0x0200, 0x01⟩ [0x69, 0x01] [])
      ⟨0x81, 0x00, 0x00, 0xFF, 0x0202, 0xC0⟩ [] = true := by decide

/-- V41-4: ADC #$80. -/
theorem test_adc_V41_4 :
    ends (start ⟨0x80, 0x00, 0x00, 0xFF, 0x0200, 0x00⟩ [0x69, 0x80] [])
      ⟨0x00, 0x00, 0x00, 0xFF, 0x0202, 0x43⟩ [] = true := by decide

/-- V41-10: SBC #$03 (C=0). -/
theorem test_sbc_V41_10 :
    ends (start ⟨0x05, 0x00, 0x00, 0xFF, 0x0200, 0x00⟩ [0xE9, 0x03] [])
      ⟨0x01, 0x00, 0x00, 0xFF, 0x0202, 0x01⟩ [] = true := by decide

/-- V41-12: SBC #$01. -/
theorem test_sbc_V41_12 :
    ends (start ⟨0x80, 0x00, 0x00, 0xFF, 0x0200, 0x01⟩ [0xE9, 0x01] [])
      ⟨0x7F, 0x00, 0x00, 0xFF, 0x0202, 0x41⟩ [] = true := by decide

/-- V41-16: CMP #$01. -/
theorem test_cmp_V41_16 :
    ends (start ⟨0x01, 0x00, 0x00, 0xFF, 0x0200, 0x00⟩ [0xC9, 0x01] [])
      ⟨0x01, 0x00, 0x00, 0xFF, 0x0202, 0x03⟩ [] = true := by decide

/-- V41-17: CMP #$02. -/
theorem test_cmp_V41_17 :
    ends (start ⟨0x01, 0x00, 0x00, 0xFF, 0x0200, 0x01⟩ [0xC9, 0x02] [])
      ⟨0x01, 0x00, 0x00, 0xFF, 0x0202, 0x80⟩ [] = true := by decide

/-- V41-20: CPX #$80. -/
theorem test_cpx_V41_20 :
    ends (start ⟨0x00, 0x7F, 0x00, 0xFF, 0x0200, 0x00⟩ [0xE0, 0x80] [])
      ⟨0x00, 0x7F, 0x00, 0xFF, 0x0202, 0x80⟩ [] = true := by decide

/-- V41-21: CPY $10. -/
theorem test_cpy_V41_21 :
    ends (start ⟨0x00, 0x00, 0xFF, 0xFF, 0x0200, 0x00⟩ [0xC4, 0x10] [(0x0010, 0x00)])
      ⟨0x00, 0x00, 0xFF, 0xFF, 0x0202, 0x81⟩ [] = true := by decide

/-- V42-2: ASL A. -/
theorem test_asl_V42_2 :
    ends (start ⟨0x41, 0x00, 0x00, 0xFF, 0x0200, 0x01⟩ [0x0A] [])
      ⟨0x82, 0x00, 0x00, 0xFF, 0x0201, 0x80⟩ [] = true := by decide

/-- V42-3: ASL $10. -/
theorem test_asl_V42_3 :
    ends (start ⟨0x00, 0x00, 0x00, 0xFF, 0x0200, 0x00⟩ [0x06, 0x10] [(0x0010, 0xC0)])
      ⟨0x00, 0x00, 0x00, 0xFF, 0x0202, 0x81⟩ [(0x0010, 0x80)] = true := by decide

/-- V42-4: LSR A. -/
theorem test_lsr_V42_4 :
    ends (start ⟨0x01, 0x00, 0x00, 0xFF, 0x0200, 0x80⟩ [0x4A] [])
      ⟨0x00, 0x00, 0x00, 0xFF, 0x0201, 0x03⟩ [] = true := by decide

/-- V42-5: LSR $1234,X. -/
theorem test_lsr_V42_5 :
    ends (start ⟨0x00, 0x04, 0x00, 0xFF, 0x0200, 0x00⟩ [0x5E, 0x30, 0x12] [(0x1234, 0xFF)])
      ⟨0x00, 0x04, 0x00, 0xFF, 0x0203, 0x01⟩ [(0x1234, 0x7F)] = true := by decide

/-- V42-6: ROL A. -/
theorem test_rol_V42_6 :
    ends (start ⟨0x80, 0x00, 0x00, 0xFF, 0x0200, 0x01⟩ [0x2A] [])
      ⟨0x01, 0x00, 0x00, 0xFF, 0x0201, 0x01⟩ [] = true := by decide

/-- V42-7: ROL A. -/
theorem test_rol_V42_7 :
    ends (start ⟨0x80, 0x00, 0x00, 0xFF, 0x0200, 0x00⟩ [0x2A] [])
      ⟨0x00, 0x00, 0x00, 0xFF, 0x0201, 0x03⟩ [] = true := by decide

/-- V42-8: ROR A. -/
theorem test_ror_V42_8 :
    ends (start ⟨0x01, 0x00, 0x00, 0xFF, 0x0200, 0x01⟩ [0x6A] [])
      ⟨0x80, 0x00, 0x00, 0xFF, 0x0201, 0x81⟩ [] = true := by decide

/-- V42-9: ROR $10. -/
theorem test_ror_V42_9 :
    ends (start ⟨0x00, 0x00, 0x00, 0xFF, 0x0200, 0x00⟩ [0x66, 0x10] [(0x0010, 0x02)])
      ⟨0x00, 0x00, 0x00, 0xFF, 0x0202, 0x00⟩ [(0x0010, 0x01)] = true := by decide

/-- V43-1: INC $10. -/
theorem test_inc_V43_1 :
    ends (start ⟨0x00, 0x00, 0x00, 0xFF, 0x0200, 0x01⟩ [0xE6, 0x10] [(0x0010, 0xFF)])
      ⟨0x00, 0x00, 0x00, 0xFF, 0x0202, 0x03⟩ [(0x0010, 0x00)] = true := by decide

/-- V43-2: DEC $10. -/
theorem test_dec_V43_2 :
    ends (start ⟨0x00, 0x00, 0x00, 0xFF, 0x0200, 0x00⟩ [0xC6, 0x10] [(0x0010, 0x00)])
      ⟨0x00, 0x00, 0x00, 0xFF, 0x0202, 0x80⟩ [(0x0010, 0xFF)] = true := by decide

/-- V43-3: INC $FF,X. -/
theorem test_inc_V43_3 :
    ends (start ⟨0x00, 0x02, 0x00, 0xFF, 0x0200, 0x00⟩ [0xF6, 0xFF] [(0x0001, 0x7F)])
      ⟨0x00, 0x02, 0x00, 0xFF, 0x0202, 0x80⟩ [(0x0001, 0x80)] = true := by decide

/-- V43-4: INX. -/
theorem test_inx_V43_4 :
    ends (start ⟨0x00, 0xFF, 0x00, 0xFF, 0x0200, 0x01⟩ [0xE8] [])
      ⟨0x00, 0x00, 0x00, 0xFF, 0x0201, 0x03⟩ [] = true := by decide

/-- V43-5: INY. -/
theorem test_iny_V43_5 :
    ends (start ⟨0x00, 0x00, 0x7F, 0xFF, 0x0200, 0x00⟩ [0xC8] [])
      ⟨0x00, 0x00, 0x80, 0xFF, 0x0201, 0x80⟩ [] = true := by decide

/-- V43-6: DEX. -/
theorem test_dex_V43_6 :
    ends (start ⟨0x00, 0x00, 0x00, 0xFF, 0x0200, 0x00⟩ [0xCA] [])
      ⟨0x00, 0xFF, 0x00, 0xFF, 0x0201, 0x80⟩ [] = true := by decide

/-- V43-7: DEY. -/
theorem test_dey_V43_7 :
    ends (start ⟨0x00, 0x00, 0x01, 0xFF, 0x0200, 0x80⟩ [0x88] [])
      ⟨0x00, 0x00, 0x00, 0xFF, 0x0201, 0x02⟩ [] = true := by decide

/-- V44-1: BNE $01FA (taken, dd=F8). -/
theorem test_bne_V44_1 :
    ends (start ⟨0x00, 0x00, 0x00, 0xFF, 0x0200, 0x00⟩ [0xD0, 0xF8] [])
      ⟨0x00, 0x00, 0x00, 0xFF, 0x01FA, 0x00⟩ [] = true := by decide

/-- V44-2: BNE (not taken). -/
theorem test_bne_V44_2 :
    ends (start ⟨0x00, 0x00, 0x00, 0xFF, 0x0200, 0x02⟩ [0xD0, 0xF8] [])
      ⟨0x00, 0x00, 0x00, 0xFF, 0x0202, 0x02⟩ [] = true := by decide

/-- V44-3: BEQ +127. -/
theorem test_beq_V44_3 :
    ends (start ⟨0x00, 0x00, 0x00, 0xFF, 0x0200, 0x02⟩ [0xF0, 0x7F] [])
      ⟨0x00, 0x00, 0x00, 0xFF, 0x0281, 0x02⟩ [] = true := by decide

/-- V44-4: BEQ -128. -/
theorem test_beq_V44_4 :
    ends (start ⟨0x00, 0x00, 0x00, 0xFF, 0x0200, 0x02⟩ [0xF0, 0x80] [])
      ⟨0x00, 0x00, 0x00, 0xFF, 0x0182, 0x02⟩ [] = true := by decide

/-- V44-5: BCC (C=0). -/
theorem test_bcc_V44_5 :
    ends (start ⟨0x00, 0x00, 0x00, 0xFF, 0x0200, 0x00⟩ [0x90, 0x10] [])
      ⟨0x00, 0x00, 0x00, 0xFF, 0x0212, 0x00⟩ [] = true := by decide

/-- V44-6: BCS (C=0, not taken). -/
theorem test_bcs_V44_6 :
    ends (start ⟨0x00, 0x00, 0x00, 0xFF, 0x0200, 0x00⟩ [0xB0, 0x10] [])
      ⟨0x00, 0x00, 0x00, 0xFF, 0x0202, 0x00⟩ [] = true := by decide

/-- V44-7: BMI (N=1). -/
theorem test_bmi_V44_7 :
    ends (start ⟨0x00, 0x00, 0x00, 0xFF, 0x0200, 0x80⟩ [0x30, 0x02] [])
      ⟨0x00, 0x00, 0x00, 0xFF, 0x0204, 0x80⟩ [] = true := by decide

/-- V44-8: BPL (N=1, not taken). -/
theorem test_bpl_V44_8 :
    ends (start ⟨0x00, 0x00, 0x00, 0xFF, 0x0200, 0x80⟩ [0x10, 0x02] [])
      ⟨0x00, 0x00, 0x00, 0xFF, 0x0202, 0x80⟩ [] = true := by decide

/-- V44-9: BVC (V=0). -/
theorem test_bvc_V44_9 :
    ends (start ⟨0x00, 0x00, 0x00, 0xFF, 0x0200, 0x00⟩ [0x50, 0xFE] [])
      ⟨0x00, 0x00, 0x00, 0xFF, 0x0200, 0x00⟩ [] = true := by decide

/-- V44-10: BVS (V=1). -/
theorem test_bvs_V44_10 :
    ends (start ⟨0x00, 0x00, 0x00, 0xFF, 0x0200, 0x40⟩ [0x70, 0x00] [])
      ⟨0x00, 0x00, 0x00, 0xFF, 0x0202, 0x40⟩ [] = true := by decide

/-- V44-11: BPL across 0xFFFF. -/
theorem test_bpl_V44_11 :
    ends (start ⟨0x00, 0x00, 0x00, 0xFF, 0xFFF0, 0x00⟩ [0x10, 0x20] [])
      ⟨0x00, 0x00, 0x00, 0xFF, 0x0012, 0x00⟩ [] = true := by decide

/-- V45-2: PHA (SP=00 wraps). -/
theorem test_pha_V45_2 :
    ends (start ⟨0x42, 0x00, 0x00, 0x00, 0x0200, 0x00⟩ [0x48] [])
      ⟨0x42, 0x00, 0x00, 0xFF, 0x0201, 0x00⟩ [(0x0100, 0x42)] = true := by decide

/-- V45-3: PLA. -/
theorem test_pla_V45_3 :
    ends (start ⟨0x00, 0x00, 0x00, 0xFE, 0x0200, 0x00⟩ [0x68] [(0x01FF, 0x80)])
      ⟨0x80, 0x00, 0x00, 0xFF, 0x0201, 0x80⟩ [] = true := by decide

/-- V45-4: PLA (SP=FF wraps). -/
theorem test_pla_V45_4 :
    ends (start ⟨0x00, 0x00, 0x00, 0xFF, 0x0200, 0x00⟩ [0x68] [(0x0100, 0x00)])
      ⟨0x00, 0x00, 0x00, 0x00, 0x0201, 0x02⟩ [] = true := by decide

/-- V45-6: PHP. -/
theorem test_php_V45_6 :
    ends (start ⟨0x00, 0x00, 0x00, 0xFF, 0x0200, 0xC3⟩ [0x08] [])
      ⟨0x00, 0x00, 0x00, 0xFE, 0x0201, 0xC3⟩ [(0x01FF, 0xF3)] = true := by decide

/-- V45-7: PLP. -/
theorem test_plp_V45_7 :
    ends (start ⟨0x00, 0x00, 0x00, 0xFE, 0x0200, 0x00⟩ [0x28] [(0x01FF, 0xFF)])
      ⟨0x00, 0x00, 0x00, 0xFF, 0x0201, 0xCF⟩ [] = true := by decide

/-- V45-8: PLP. -/
theorem test_plp_V45_8 :
    ends (start ⟨0x00, 0x00, 0x00, 0xFE, 0x0200, 0x30⟩ [0x28] [(0x01FF, 0x00)])
      ⟨0x00, 0x00, 0x00, 0xFF, 0x0201, 0x30⟩ [] = true := by decide

/-- V45-9: TSX. -/
theorem test_tsx_V45_9 :
    ends (start ⟨0x00, 0x00, 0x00, 0xFD, 0x0200, 0x00⟩ [0xBA] [])
      ⟨0x00, 0xFD, 0x00, 0xFD, 0x0201, 0x80⟩ [] = true := by decide

/-- V45-10: TXS. -/
theorem test_txs_V45_10 :
    ends (start ⟨0x00, 0x00, 0x00, 0xFF, 0x0200, 0x00⟩ [0x9A] [])
      ⟨0x00, 0x00, 0x00, 0x00, 0x0201, 0x00⟩ [] = true := by decide

/-- V46-1: JMP $1234. -/
theorem test_jmp_V46_1 :
    ends (start ⟨0x00, 0x00, 0x00, 0xFF, 0x0200, 0x00⟩ [0x4C, 0x34, 0x12] [])
      ⟨0x00, 0x00, 0x00, 0xFF, 0x1234, 0x00⟩ [] = true := by decide

/-- V46-2: JMP ($10FF). -/
theorem test_jmp_V46_2 :
    ends (start ⟨0x00, 0x00, 0x00, 0xFF, 0x0200, 0x00⟩ [0x6C, 0xFF, 0x10] [(0x1000, 0x12), (0x10FF, 0x34), (0x1100, 0x56)])
      ⟨0x00, 0x00, 0x00, 0xFF, 0x1234, 0x00⟩ [] = true := by decide

/-- V46-4: JMP ($FFFF). -/
theorem test_jmp_V46_4 :
    ends (start ⟨0x00, 0x00, 0x00, 0xFF, 0x0200, 0x00⟩ [0x6C, 0xFF, 0xFF] [(0x0000, 0x56), (0xFF00, 0x12), (0xFFFF, 0x34)])
      ⟨0x00, 0x00, 0x00, 0xFF, 0x1234, 0x00⟩ [] = true := by decide

/-- V46-5: JSR $0300. -/
theorem test_jsr_V46_5 :
    ends (start ⟨0x00, 0x00, 0x00, 0xFF, 0x0200, 0x00⟩ [0x20, 0x00, 0x03] [])
      ⟨0x00, 0x00, 0x00, 0xFD, 0x0300, 0x00⟩ [(0x01FF, 0x02), (0x01FE, 0x02)] = true := by decide

/-- V46-7: RTS (popped FFFF). -/
theorem test_rts_V46_7 :
    ends (start ⟨0x00, 0x00, 0x00, 0xFD, 0x0200, 0x00⟩ [0x60] [(0x01FE, 0xFF), (0x01FF, 0xFF)])
      ⟨0x00, 0x00, 0x00, 0xFF, 0x0000, 0x00⟩ [] = true := by decide

/-- V46-8: BRK (vector 1010). -/
theorem test_brk_V46_8 :
    ends (start ⟨0x00, 0x00, 0x00, 0xFF, 0x0FFE, 0xFF⟩ [0x00, 0x00] [(0xFFFE, 0x10), (0xFFFF, 0x10)])
      ⟨0x00, 0x00, 0x00, 0xFC, 0x1010, 0xFF⟩ [(0x01FF, 0x10), (0x01FE, 0x00), (0x01FD, 0xFF)] = true := by decide

/-- V46-9: BRK (P=00, vector 0400). -/
theorem test_brk_V46_9 :
    ends (start ⟨0x00, 0x00, 0x00, 0xFF, 0x0200, 0x00⟩ [0x00, 0xEA] [(0xFFFE, 0x00), (0xFFFF, 0x04)])
      ⟨0x00, 0x00, 0x00, 0xFC, 0x0400, 0x04⟩ [(0x01FF, 0x02), (0x01FE, 0x02), (0x01FD, 0x30)] = true := by decide

/-- V46-11: RTI. -/
theorem test_rti_V46_11 :
    ends (start ⟨0x00, 0x00, 0x00, 0xFC, 0x0200, 0x30⟩ [0x40] [(0x01FD, 0xC3), (0x01FE, 0x34), (0x01FF, 0x12)])
      ⟨0x00, 0x00, 0x00, 0xFF, 0x1234, 0xF3⟩ [] = true := by decide

/-- V47-3: LDA $FF,X (zp wrap). -/
theorem test_lda_V47_3 :
    ends (start ⟨0x00, 0x01, 0x00, 0xFF, 0x0200, 0x00⟩ [0xB5, 0xFF] [(0x0000, 0x11), (0x0100, 0x22)])
      ⟨0x11, 0x01, 0x00, 0xFF, 0x0202, 0x00⟩ [] = true := by decide

/-- V47-4: LDX $FF,Y (zp wrap). -/
theorem test_ldx_V47_4 :
    ends (start ⟨0x00, 0x00, 0x02, 0xFF, 0x0200, 0x00⟩ [0xB6, 0xFF] [(0x0001, 0x33)])
      ⟨0x00, 0x33, 0x02, 0xFF, 0x0202, 0x00⟩ [] = true := by decide

/-- V47-6: LDY $FFFF,X (16-bit wrap). -/
theorem test_ldy_V47_6 :
    ends (start ⟨0x00, 0x01, 0x00, 0xFF, 0x0200, 0x00⟩ [0xBC, 0xFF, 0xFF] [(0x0000, 0x81)])
      ⟨0x00, 0x01, 0x81, 0xFF, 0x0203, 0x80⟩ [] = true := by decide

/-- V47-8: LDA ($FF,X) (pointer wraps). -/
theorem test_lda_V47_8 :
    ends (start ⟨0x00, 0x00, 0x00, 0xFF, 0x0200, 0x00⟩ [0xA1, 0xFF] [(0x0000, 0x03), (0x00FF, 0x00), (0x0100, 0x09), (0x0300, 0x66)])
      ⟨0x66, 0x00, 0x00, 0xFF, 0x0202, 0x00⟩ [] = true := by decide

/-- V47-10: LDA ($FF),Y (pointer wraps). -/
theorem test_lda_V47_10 :
    ends (start ⟨0x00, 0x00, 0x01, 0xFF, 0x0200, 0x00⟩ [0xB1, 0xFF] [(0x0000, 0x04), (0x00FF, 0x00), (0x0100, 0x09), (0x0401, 0x99)])
      ⟨0x99, 0x00, 0x01, 0xFF, 0x0202, 0x80⟩ [] = true := by decide

/-- V47-11: STA $0011. -/
theorem test_sta_V47_11 :
    ends (start ⟨0x37, 0x00, 0x00, 0xFF, 0x0200, 0x00⟩ [0x8D, 0x11, 0x00] [])
      ⟨0x37, 0x00, 0x00, 0xFF, 0x0203, 0x00⟩ [(0x0011, 0x37)] = true := by decide

/-- V47-12: STA $FFFF,Y (16-bit wrap). -/
theorem test_sta_V47_12 :
    ends (start ⟨0xAB, 0x00, 0x02, 0xFF, 0x0200, 0x00⟩ [0x99, 0xFF, 0xFF] [])
      ⟨0xAB, 0x00, 0x02, 0xFF, 0x0203, 0x00⟩ [(0x0001, 0xAB)] = true := by decide

/-- V47-13: STX $FF,Y. -/
theorem test_stx_V47_13 :
    ends (start ⟨0x00, 0x0A, 0x01, 0xFF, 0x0200, 0x00⟩ [0x96, 0xFF] [])
      ⟨0x00, 0x0A, 0x01, 0xFF, 0x0202, 0x00⟩ [(0x0000, 0x0A)] = true := by decide

/-- V47-14: STY $80,X. -/
theorem test_sty_V47_14 :
    ends (start ⟨0x00, 0x90, 0x05, 0xFF, 0x0200, 0x00⟩ [0x94, 0x80] [])
      ⟨0x00, 0x90, 0x05, 0xFF, 0x0202, 0x00⟩ [(0x0010, 0x05)] = true := by decide

/-- V47-15: TAX. -/
theorem test_tax_V47_15 :
    ends (start ⟨0x00, 0x12, 0x00, 0xFF, 0x0200, 0x00⟩ [0xAA] [])
      ⟨0x00, 0x00, 0x00, 0xFF, 0x0201, 0x02⟩ [] = true := by decide

/-- V47-16: TAY. -/
theorem test_tay_V47_16 :
    ends (start ⟨0xC0, 0x00, 0x00, 0xFF, 0x0200, 0x00⟩ [0xA8] [])
      ⟨0xC0, 0x00, 0xC0, 0xFF, 0x0201, 0x80⟩ [] = true := by decide

/-- V47-17: TXA. -/
theorem test_txa_V47_17 :
    ends (start ⟨0x00, 0x80, 0x00, 0xFF, 0x0200, 0x00⟩ [0x8A] [])
      ⟨0x80, 0x80, 0x00, 0xFF, 0x0201, 0x80⟩ [] = true := by decide

/-- V47-18: TYA. -/
theorem test_tya_V47_18 :
    ends (start ⟨0x00, 0x00, 0x12, 0xFF, 0x0200, 0x82⟩ [0x98] [])
      ⟨0x12, 0x00, 0x12, 0xFF, 0x0201, 0x00⟩ [] = true := by decide

/-- V48-1: AND #$3C. -/
theorem test_and_V48_1 :
    ends (start ⟨0xF0, 0x00, 0x00, 0xFF, 0x0200, 0x00⟩ [0x29, 0x3C] [])
      ⟨0x30, 0x00, 0x00, 0xFF, 0x0202, 0x00⟩ [] = true := by decide

/-- V48-3: ORA #$80. -/
theorem test_ora_V48_3 :
    ends (start ⟨0x01, 0x00, 0x00, 0xFF, 0x0200, 0x00⟩ [0x09, 0x80] [])
      ⟨0x81, 0x00, 0x00, 0xFF, 0x0202, 0x80⟩ [] = true := by decide

/-- V48-4: EOR #$FF. -/
theorem test_eor_V48_4 :
    ends (start ⟨0xFF, 0x00, 0x00, 0xFF, 0x0200, 0x00⟩ [0x49, 0xFF] [])
      ⟨0x00, 0x00, 0x00, 0xFF, 0x0202, 0x02⟩ [] = true := by decide

/-- V48-5: BIT $10. -/
theorem test_bit_V48_5 :
    ends (start ⟨0x01, 0x00, 0x00, 0xFF, 0x0200, 0x00⟩ [0x24, 0x10] [(0x0010, 0x41)])
      ⟨0x01, 0x00, 0x00, 0xFF, 0x0202, 0x40⟩ [] = true := by decide

/-- V48-6: BIT $1000. -/
theorem test_bit_V48_6 :
    ends (start ⟨0x3F, 0x00, 0x00, 0xFF, 0x0200, 0x01⟩ [0x2C, 0x00, 0x10] [(0x1000, 0xC0)])
      ⟨0x3F, 0x00, 0x00, 0xFF, 0x0203, 0xC3⟩ [] = true := by decide

/-- V48-7: CLC. -/
theorem test_clc_V48_7 :
    ends (start ⟨0x00, 0x00, 0x00, 0xFF, 0x0200, 0xFF⟩ [0x18] [])
      ⟨0x00, 0x00, 0x00, 0xFF, 0x0201, 0xFE⟩ [] = true := by decide

/-- V48-8: SEC. -/
theorem test_sec_V48_8 :
    ends (start ⟨0x00, 0x00, 0x00, 0xFF, 0x0200, 0x00⟩ [0x38] [])
      ⟨0x00, 0x00, 0x00, 0xFF, 0x0201, 0x01⟩ [] = true := by decide

/-- V48-9: CLI. -/
theorem test_cli_V48_9 :
    ends (start ⟨0x00, 0x00, 0x00, 0xFF, 0x0200, 0x04⟩ [0x58] [])
      ⟨0x00, 0x00, 0x00, 0xFF, 0x0201, 0x00⟩ [] = true := by decide

/-- V48-10: SEI. -/
theorem test_sei_V48_10 :
    ends (start ⟨0x00, 0x00, 0x00, 0xFF, 0x0200, 0x00⟩ [0x78] [])
      ⟨0x00, 0x00, 0x00, 0xFF, 0x0201, 0x04⟩ [] = true := by decide

/-- V48-11: CLD. -/
theorem test_cld_V48_11 :
    ends (start ⟨0x00, 0x00, 0x00, 0xFF, 0x0200, 0x08⟩ [0xD8] [])
      ⟨0x00, 0x00, 0x00, 0xFF, 0x0201, 0x00⟩ [] = true := by decide

/-- V48-12: SED. -/
theorem test_sed_V48_12 :
    ends (start ⟨0x00, 0x00, 0x00, 0xFF, 0x0200, 0x00⟩ [0xF8] [])
      ⟨0x00, 0x00, 0x00, 0xFF, 0x0201, 0x08⟩ [] = true := by decide

/-- V48-13: CLV. -/
theorem test_clv_V48_13 :
    ends (start ⟨0x00, 0x00, 0x00, 0xFF, 0x0200, 0x40⟩ [0xB8] [])
      ⟨0x00, 0x00, 0x00, 0xFF, 0x0201, 0x00⟩ [] = true := by decide

/-- V48-15: NOP at FFFF. -/
theorem test_nop_V48_15 :
    ends (start ⟨0x00, 0x00, 0x00, 0xFF, 0xFFFF, 0x00⟩ [0xEA] [])
      ⟨0x00, 0x00, 0x00, 0xFF, 0x0000, 0x00⟩ [] = true := by decide

/-- V49-1: SLO $10. -/
theorem test_slo_V49_1 :
    ends (start ⟨0x01, 0x00, 0x00, 0xFF, 0x0200, 0x00⟩ [0x07, 0x10] [(0x0010, 0x41)])
      ⟨0x83, 0x00, 0x00, 0xFF, 0x0202, 0x80⟩ [(0x0010, 0x82)] = true := by decide

/-- V49-3: RLA $10. -/
theorem test_rla_V49_3 :
    ends (start ⟨0xFF, 0x00, 0x00, 0xFF, 0x0200, 0x01⟩ [0x27, 0x10] [(0x0010, 0x40)])
      ⟨0x81, 0x00, 0x00, 0xFF, 0x0202, 0x80⟩ [(0x0010, 0x81)] = true := by decide

/-- V49-4: SRE $10. -/
theorem test_sre_V49_4 :
    ends (start ⟨0x80, 0x00, 0x00, 0xFF, 0x0200, 0x00⟩ [0x47, 0x10] [(0x0010, 0x03)])
      ⟨0x81, 0x00, 0x00, 0xFF, 0x0202, 0x81⟩ [(0x0010, 0x01)] = true := by decide

/-- V49-5: RRA $10. -/
theorem test_rra_V49_5 :
    ends (start ⟨0x10, 0x00, 0x00, 0xFF, 0x0200, 0x00⟩ [0x67, 0x10] [(0x0010, 0x02)])
      ⟨0x11, 0x00, 0x00, 0xFF, 0x0202, 0x00⟩ [(0x0010, 0x01)] = true := by decide

/-- V49-6: RRA $10. -/
theorem test_rra_V49_6 :
    ends (start ⟨0x00, 0x00, 0x00, 0xFF, 0x0200, 0x00⟩ [0x67, 0x10] [(0x0010, 0x01)])
      ⟨0x01, 0x00, 0x00, 0xFF, 0x0202, 0x00⟩ [(0x0010, 0x00)] = true := by decide

/-- V49-8: SAX $FF,Y. -/
theorem test_sax_V49_8 :
    ends (start ⟨0xFF, 0x0F, 0x01, 0xFF, 0x0200, 0x00⟩ [0x97, 0xFF] [])
      ⟨0xFF, 0x0F, 0x01, 0xFF, 0x0202, 0x00⟩ [(0x0000, 0x0F)] = true := by decide

/-- V49-10: LAX ($20),Y. -/
theorem test_lax_V49_10 :
    ends (start ⟨0x00, 0x00, 0x01, 0xFF, 0x0200, 0x00⟩ [0xB3, 0x20] [(0x0020, 0x00), (0x0021, 0x30), (0x3001, 0x00)])
      ⟨0x00, 0x00, 0x01, 0xFF, 0x0202, 0x02⟩ [] = true := by decide

/-- V49-12: DCP $10. -/
theorem test_dcp_V49_12 :
    ends (start ⟨0xFF, 0x00, 0x00, 0xFF, 0x0200, 0x00⟩ [0xC7, 0x10] [(0x0010, 0x00)])
      ⟨0xFF, 0x00, 0x00, 0xFF, 0x0202, 0x03⟩ [(0x0010, 0xFF)] = true := by decide

/-- V49-13: ISC $10. -/
theorem test_isc_V49_13 :
    ends (start ⟨0x10, 0x00, 0x00, 0xFF, 0x0200, 0x01⟩ [0xE7, 0x10] [(0x0010, 0x04)])
      ⟨0x0B, 0x00, 0x00, 0xFF, 0x0202, 0x01⟩ [(0x0010, 0x05)] = true := by decide

/-- V49-15: ANC #$81. -/
theorem test_anc_V49_15 :
    ends (start ⟨0xFF, 0x00, 0x00, 0xFF, 0x0200, 0x00⟩ [0x0B, 0x81] [])
      ⟨0x81, 0x00, 0x00, 0xFF, 0x0202, 0x81⟩ [] = true := by decide

/-- V49-16: ANC #$00 (0x2B). -/
theorem test_anc_V49_16 :
    ends (start ⟨0xFF, 0x00, 0x00, 0xFF, 0x0200, 0x01⟩ [0x2B, 0x00] [])
      ⟨0x00, 0x00, 0x00, 0xFF, 0x0202, 0x02⟩ [] = true := by decide

/-- V49-17: ALR #$03. -/
theorem test_alr_V49_17 :
    ends (start ⟨0xFF, 0x00, 0x00, 0xFF, 0x0200, 0x00⟩ [0x4B, 0x03] [])
      ⟨0x01, 0x00, 0x00, 0xFF, 0x0202, 0x01⟩ [] = true := by decide

/-- V49-18: ARR #$FF. -/
theorem test_arr_V49_18 :
    ends (start ⟨0xC0, 0x00, 0x00, 0xFF, 0x0200, 0x00⟩ [0x6B, 0xFF] [])
      ⟨0x60, 0x00, 0x00, 0xFF, 0x0202, 0x01⟩ [] = true := by decide

/-- V49-20: ARR #$80. -/
theorem test_arr_V49_20 :
    ends (start ⟨0xFF, 0x00, 0x00, 0xFF, 0x0200, 0x00⟩ [0x6B, 0x80] [])
      ⟨0x40, 0x00, 0x00, 0xFF, 0x0202, 0x41⟩ [] = true := by decide

/-- V49-21: XAA #$3C. -/
theorem test_xaa_V49_21 :
    ends (start ⟨0x00, 0x0F, 0x00, 0xFF, 0x0200, 0x00⟩ [0x8B, 0x3C] [])
      ⟨0x0C, 0x0F, 0x00, 0xFF, 0x0202, 0x00⟩ [] = true := by decide

/-- V49-22: LXA #$81. -/
theorem test_lxa_V49_22 :
    ends (start ⟨0x00, 0x00, 0x00, 0xFF, 0x0200, 0x00⟩ [0xAB, 0x81] [])
      ⟨0x81, 0x81, 0x00, 0xFF, 0x0202, 0x80⟩ [] = true := by decide

/-- V49-23: SBX #$01. -/
theorem test_sbx_V49_23 :
    ends (start ⟨0xFF, 0x10, 0x00, 0xFF, 0x0200, 0x00⟩ [0xCB, 0x01] [])
      ⟨0xFF, 0x0F, 0x00, 0xFF, 0x0202, 0x01⟩ [] = true := by decide

/-- V49-24: SBX #$01. -/
theorem test_sbx_V49_24 :
    ends (start ⟨0xF0, 0x0F, 0x00, 0xFF, 0x0200, 0x01⟩ [0xCB, 0x01] [])
      ⟨0xF0, 0xFF, 0x00, 0xFF, 0x0202, 0x80⟩ [] = true := by decide

/-- V49-25: SBC #$03 (0xEB). -/
theorem test_sbc_V49_25 :
    ends (start ⟨0x05, 0x00, 0x00, 0xFF, 0x0200, 0x01⟩ [0xEB, 0x03] [])
      ⟨0x02, 0x00, 0x00, 0xFF, 0x0202, 0x01⟩ [] = true := by decide

/-- V49-26: LAS $1000,Y. -/
theorem test_las_V49_26 :
    ends (start ⟨0x00, 0x00, 0x00, 0xFF, 0x0200, 0x00⟩ [0xBB, 0x00, 0x10] [(0x1000, 0x3C)])
      ⟨0x3C, 0x3C, 0x00, 0x3C, 0x0203, 0x00⟩ [] = true := by decide

/-- V49-27: SHA $1200,Y. -/
theorem test_sha_V49_27 :
    ends (start ⟨0xFF, 0x0F, 0x05, 0xFF, 0x0200, 0x00⟩ [0x9F, 0x00, 0x12] [])
      ⟨0xFF, 0x0F, 0x05, 0xFF, 0x0203, 0x00⟩ [(0x1205, 0x03)] = true := by decide

/-- V49-28: SHA $12F0,Y (cross). -/
theorem test_sha_V49_28 :
    ends (start ⟨0x01, 0xFF, 0x20, 0xFF, 0x0200, 0x00⟩ [0x9F, 0xF0, 0x12] [])
      ⟨0x01, 0xFF, 0x20, 0xFF, 0x0203, 0x00⟩ [(0x0110, 0x01), (0x1310, 0x00)] = true := by decide

/-- V49-29: SHA ($20),Y. -/
theorem test_sha_V49_29 :
    ends (start ⟨0xFF, 0xFF, 0x01, 0xFF, 0x0200, 0x00⟩ [0x93, 0x20] [(0x0020, 0x00), (0x0021, 0x07)])
      ⟨0xFF, 0xFF, 0x01, 0xFF, 0x0202, 0x00⟩ [(0x0701, 0x08)] = true := by decide

/-- V49-30: SHX $0200,Y. -/
theorem test_shx_V49_30 :
    ends (start ⟨0x00, 0xFF, 0x01, 0xFF, 0x0300, 0x00⟩ [0x9E, 0x00, 0x02] [])
      ⟨0x00, 0xFF, 0x01, 0xFF, 0x0303, 0x00⟩ [(0x0201, 0x03)] = true := by decide

/-- V49-31: SHY $02FF,X (cross). -/
theorem test_shy_V49_31 :
    ends (start ⟨0x00, 0x01, 0xFF, 0xFF, 0x0400, 0x00⟩ [0x9C, 0xFF, 0x02] [])
      ⟨0x00, 0x01, 0xFF, 0xFF, 0x0403, 0x00⟩ [(0x0300, 0x03)] = true := by decide

/-- V49-32: SHY $0400,X. -/
theorem test_shy_V49_32 :
    ends (start ⟨0x00, 0x10, 0x07, 0xFF, 0x0200, 0x00⟩ [0x9C, 0x00, 0x04] [])
      ⟨0x00, 0x10, 0x07, 0xFF, 0x0203, 0x00⟩ [(0x0410, 0x05)] = true := by decide

/-- V49-33: TAS $0300,Y. -/
theorem test_tas_V49_33 :
    ends (start ⟨0xFF, 0xF0, 0x00, 0xFF, 0x0200, 0x00⟩ [0x9B, 0x00, 0x03] [])
      ⟨0xFF, 0xF0, 0x00, 0xF0, 0x0203, 0x00⟩ [(0x0300, 0x00)] = true := by decide

/-- V49-34: NOP $1234 (0x0C). -/
theorem test_nop_V49_34 :
    ends (start ⟨0x01, 0x00, 0x00, 0xFF, 0x0200, 0x00⟩ [0x0C, 0x34, 0x12] [])
      ⟨0x01, 0x00, 0x00, 0xFF, 0x0203, 0x00⟩ [] = true := by decide

/-- V49-35: NOP #$FF (0x80). -/
theorem test_nop_V49_35 :
    ends (start ⟨0x00, 0x00, 0x00, 0xFF, 0x0200, 0x00⟩ [0x80, 0xFF] [])
      ⟨0x00, 0x00, 0x00, 0xFF, 0x0202, 0x00⟩ [] = true := by decide

/-- V49-36: NOP $10,X (0x14). -/
theorem test_nop_V49_36 :
    ends (start ⟨0x00, 0x01, 0x00, 0xFF, 0x0200, 0x00⟩ [0x14, 0x10] [])
      ⟨0x00, 0x01, 0x00, 0xFF, 0x0202, 0x00⟩ [] = true := by decide

/-- V49-37: NOP (0x1A). -/
theorem test_nop_V49_37 :
    ends (start ⟨0x00, 0x00, 0x00, 0xFF, 0x0200, 0x00⟩ [0x1A] [])
      ⟨0x00, 0x00, 0x00, 0xFF, 0x0201, 0x00⟩ [] = true := by decide

/-- V49-38: NOP $1000,X (0xFC). -/
theorem test_nop_V49_38 :
    ends (start ⟨0x00, 0x00, 0x00, 0xFF, 0x0200, 0x00⟩ [0xFC, 0x00, 0x10] [])
      ⟨0x00, 0x00, 0x00, 0xFF, 0x0203, 0x00⟩ [] = true := by decide

/-- V49-39: JAM 0x02 stops, and the host sees the state unchanged. -/
theorem test_jam :
    (start ⟨0x12, 0x00, 0x00, 0xFF, 0x0210, 0x01⟩ [0x02] []).hostStep =
      (.stopped, start ⟨0x12, 0x00, 0x00, 0xFF, 0x0210, 0x01⟩ [0x02] []) := by decide

/-! ### Reset and the host -/

/-- V70-1: the constructed state. -/
theorem test_construct : State.construct.snapshot = ⟨0x00, 0x00, 0x00, 0xFF, 0x0000, 0x00⟩ := by decide

/-- V70-2: `reset()` keeps memory and takes PC from the vector. -/
theorem test_hostReset :
    let s := (start ⟨0x12, 0x34, 0x56, 0x10, 0x1234, 0xFF⟩ [] [(0xFFFD, 0x02), (0x0010, 0xAA)]).hostReset
    s.snapshot = ⟨0x00, 0x00, 0x00, 0xFF, 0x0200, 0x00⟩ ∧ s.readByte 0x0010 = 0xAA := by decide

/-- V70-4, step 1: in all-zero memory the first instruction is BRK 00 00. -/
theorem test_first_step :
    ends State.reset ⟨0x00, 0x00, 0x00, 0xFC, 0x0000, 0x04⟩ [(0x01FF, 0x00), (0x01FE, 0x02), (0x01FD, 0x30)] = true := by
  decide

/-- A table word placed at reset runs as the first instruction. -/
theorem test_withFetchWord : step (State.reset.withFetchWord 16 0x10A9) = exec (.ldaImm 0x10) (State.reset.withFetchWord 16 0x10A9) := rfl

/-- Writing the byte an unlisted address reads as removes the cell (10_state.md R38). -/
theorem test_write_zero : ((Memory.write [] 0x0010 0xAA).write 0x0010 0x00) = [] := by decide

/-! ### Witnesses: states and operands that meet the hypotheses of the statements, and each of their clauses -/

/-- A small state: ADC #$01 at 0x0200, a byte in the zero page. -/
def adcState : State := start ⟨0x7F, 0x00, 0x00, 0xFF, 0x0200, 0x01⟩ [0x69, 0x01] [(0x0010, 0x05)]

/-- The state after one step. -/
def after (s : State) : State :=
  match step s with
  | .next t => t
  | _ => s

theorem witness_StepRunsDecodedInstruction :
    decode (adcState.mem.bytesFrom adcState.pc 3) = .ok (.adcImm 0x01, [0x00]) ∧
      step adcState = exec (.adcImm 0x01) adcState := ⟨rfl, rfl⟩

/-- A witness at the top of memory: the operand bytes stand at 0x0000 and 0x0001. -/
theorem witness_StepRunsDecodedInstruction_wraps :
    let s := start ⟨0x00, 0x00, 0x00, 0xFF, 0xFFFF, 0x00⟩ [0x4C, 0x34, 0x12] []
    decode (s.mem.bytesFrom s.pc 3) = .ok (.jmpAbs 0x1234, []) ∧ step s = .next (s.setPC 0x1234) := ⟨rfl, rfl⟩

theorem witness_StepKeepsCanonicalMemory :
    adcState.mem.wf ∧ step adcState = .next (after adcState) ∧ (after adcState).mem.wf := ⟨by decide, rfl, by decide⟩

/-- A storing step from canonical memory: DEC $10 makes the byte 0x00, whose cell goes. -/
theorem witness_StepKeepsCanonicalMemory_store :
    let s := start ⟨0x00, 0x00, 0x00, 0xFF, 0x0200, 0x00⟩ [0xC6, 0x10] [(0x0010, 0x01)]
    s.mem.wf ∧ step s = .next (after s) ∧ (after s).mem = [(0x0200, 0xC6), (0x0201, 0x10)] := ⟨by decide, rfl, by decide⟩

/-- PLP pulls 0xFF over a P whose B and U are 0. -/
theorem witness_StepKeepsBreakAndUnused :
    let s := start ⟨0x00, 0x00, 0x00, 0xFE, 0x0200, 0x00⟩ [0x28] [(0x01FF, 0xFF)]
    step s = .next (after s) ∧ (after s).flag .b = s.flag .b ∧ (after s).flag .u = s.flag .u ∧
      (after s).flag .n = true := ⟨rfl, by decide⟩

theorem witness_CanonicalMemoryIsUnique :
    (Memory.write [] 0x0010 0xAA).wf ∧ (Memory.writeBytes [] 0x0010 [0xAA, 0x00]).wf ∧
      Memory.write [] 0x0010 0xAA = Memory.writeBytes [] 0x0010 [0xAA, 0x00] := by decide

theorem witness_ReadReturnsLastWrite :
    (0x0001 : Word) ≠ 0x0000 ∧ (Memory.write [(1, 0x05)] 0x0000 0xAA).read 0x0001 = 0x05 := by decide

theorem witness_FlagsAreIndependent :
    getFlag (setFlag 0x00 .z true) .z = true ∧ Flag.n ≠ Flag.z ∧ getFlag (setFlag 0x00 .z true) .n = false := by decide

theorem witness_JamStopsUnchanged :
    (start ⟨0x00, 0x00, 0x00, 0xFF, 0xFFFF, 0x00⟩ [0xF2] []).read 0xFFFF = 0xF2 := by decide

theorem witness_StoppedExactlyAtJam :
    step (start ⟨0x00, 0x00, 0x00, 0xFF, 0x0200, 0x00⟩ [0x92] []) = .fault .stopped ∧
      step adcState = .next (after adcState) := ⟨rfl, rfl⟩

/-- NOP is outside every writers' list. -/
theorem witness_RegistersChangeOnlyByWriters :
    exec .nop adcState = .next (adcState.setPC 0x0201) ∧ Instr.nop.mnemonic ∉ writersOfA ∧
      (Instr.nop.mnemonic ∈ shifts → Instr.nop.operand ≠ .acc) ∧ Instr.nop.mnemonic ∉ writersOfX ∧
      Instr.nop.mnemonic ∉ writersOfY ∧ Instr.nop.mnemonic ∉ writersOfSP := ⟨rfl, by decide⟩

/-- ASL in memory is a shift that does not write A. -/
theorem witness_RegistersChangeOnlyByWriters_shift :
    exec (.aslZp 0x10) adcState = .next (((adcState.write 0x0010 0x0A).setP 0x00).setPC 0x0202) ∧
      (Instr.aslZp 0x10).mnemonic ∉ writersOfA ∧ (Instr.aslZp 0x10).mnemonic ∈ shifts ∧
      (Instr.aslZp 0x10).operand ≠ .acc := ⟨rfl, by decide⟩

/-- CMP writes C, Z and N but not V. -/
theorem witness_FlagsChangeOnlyByWriters :
    exec (.cmpImm 0x01) adcState = .next ((adcState.setPC 0x0202).setP 0x01) ∧
      (Instr.cmpImm 0x01).mnemonic ∉ writersOfFlag .v := ⟨rfl, by decide⟩

theorem witness_MemoryChangesOnlyByWriters :
    exec .aslAcc adcState = .next (((adcState.setPC 0x0201).setA 0xFE).setP 0x80) ∧
      Instr.aslAcc.mnemonic ∉ writersOfMemory ∧ Instr.aslAcc.mnemonic ∈ shifts ∧ Instr.aslAcc.operand = .acc := ⟨rfl, by decide⟩

/-- At the top of memory PC wraps to 0x0000. -/
theorem witness_PCAdvancesByLength :
    exec .nop (adcState.setPC 0xFFFF) = .next (adcState.setPC 0x0000) ∧ Instr.nop.mnemonic ∉ redirectPC := ⟨rfl, by decide⟩

/-- Two states that differ in D only, before an ADC. -/
theorem witness_DecimalAndInterruptFlagsSteerNothing :
    AgreeExcept .d adcState (adcState.setFlag .d true) ∧ (Instr.adcImm 0x01).mnemonic ≠ .php ∧
      (Instr.adcImm 0x01).mnemonic ≠ .brk :=
  ⟨⟨rfl, rfl, rfl, rfl, rfl, rfl, fun g hg => by cases g <;> first | rfl | exact absurd rfl hg⟩, by decide, by decide⟩

/-- Both clauses of a branch: taken backwards, and not taken. -/
theorem witness_BranchesRedirectOnlyPC :
    exec (.bne 0x80) adcState = .next (adcState.setPC 0x0182) ∧
      exec (.beq 0x80) adcState = .next (adcState.setPC 0x0202) := ⟨rfl, rfl⟩

/-- Both clauses of the high-byte store: inside the page up to its last byte, and across its end. -/
theorem witness_HighByteStores :
    highStoreAddr ⟨0x12F0, 0x0F⟩ 0xFF = 0x12FF ∧ highStoreAddr ⟨0x12F0, 0x10⟩ 0x03 = 0x0300 := by decide

/-- JMP indirect inside a page, and at its last byte. -/
theorem witness_JmpSetsOnlyPC :
    Memory.readPageWord [(0x1000, 0x12), (0x10FE, 0x56), (0x10FF, 0x34)] 0x10FE = 0x3456 ∧
      Memory.readPageWord [(0x1000, 0x12), (0x10FE, 0x56), (0x10FF, 0x34)] 0x10FF = 0x1234 := by decide

/-- Signed overflow at its two bounds, and inside. -/
theorem witness_AdcOverflowIsSignedOverflow :
    adcOverflow 0x7F 0x00 true = true ∧ adcOverflow 0x7F 0x00 false = false ∧ adcOverflow 0x80 0x00 false = false ∧
      adcOverflow 0x80 0xFF false = true := by decide

/-- The three addresses of a BRK frame, with SP at its lowest value, and an address outside them. -/
theorem witness_BrkEntersHandler :
    stackByte 0x00 = 0x0100 ∧ stackByte (0x00 - 1) = 0x01FF ∧ stackByte (0x00 - 2) = 0x01FE ∧
      (0x0000 : Word) ≠ stackByte 0x00 := by decide

end Sys2Proof.Tests
end

section
/-! PROOFS. The state (10_state.md): flags are independent and each has its writers, registers have theirs, canonical
memory is unique and kept, D and I steer nothing. A proof about every instruction splits the tags of `effect` and treats
together the tags whose next states are built alike. -/

namespace Sys2Proof.Machine

open Sys2Proof.Stating

/-! ### Facts about the shared operations -/

theorem State.flag_setFlag_of_ne (s : State) {f g : Flag} (b : Bool) (h : g ≠ f) : (s.setFlag f b).flag g = s.flag g :=
  getFlag_setFlag_of_ne s.p b h

theorem State.flag_setNZ_of_ne (s : State) (r : Byte) {f : Flag} (hz : f ≠ .z) (hn : f ≠ .n) :
    (s.setNZ r).flag f = s.flag f :=
  getFlag_setNZ_of_ne s.p r hz hn

@[simp] theorem State.flag_writeBack (s : State) (v : Byte) (o : Target) (f : Flag) :
    (s.writeBack v o).flag f = s.flag f := by
  simp [State.flag_eq]

/-- PLP and RTI keep B and U (10_state.md R33, R34). -/
theorem getFlag_pulledStatus_of_break_or_unused (p v : Byte) {f : Flag} (h : f = .b ∨ f = .u) :
    getFlag (pulledStatus p v) f = getFlag p f := by
  rw [getFlag_pulledStatus, if_pos h]

theorem State.flag_addWithCarry_of_ne (s : State) (m : Byte) {f : Flag} (hc : f ≠ .c) (hv : f ≠ .v) (hz : f ≠ .z)
    (hn : f ≠ .n) : (s.addWithCarry m).flag f = s.flag f := by
  cases f <;> simp_all [State.addWithCarry_flag]

theorem State.flag_subtractWithCarry_of_ne (s : State) (m : Byte) {f : Flag} (hc : f ≠ .c) (hv : f ≠ .v) (hz : f ≠ .z)
    (hn : f ≠ .n) : (s.subtractWithCarry m).flag f = s.flag f := by
  cases f <;> simp_all [State.subtractWithCarry_flag]

/-- A carry written and then SetNZ, as the compares, shifts and rotates do: C, Z and N, and no other flag. -/
theorem State.flag_setFlag_setNZ_of_ne (s : State) (b : Bool) (r : Byte) {f : Flag} (hc : f ≠ .c) (hz : f ≠ .z)
    (hn : f ≠ .n) : ((s.setFlag .c b).setNZ r).flag f = s.flag f :=
  (State.flag_setNZ_of_ne _ r hz hn).trans (s.flag_setFlag_of_ne b hc)

/-- A branch writes PC and nothing else (44_branches.md R150). -/
theorem opBranch_next_inv {b : Bool} {dd : Byte} {s t : State} (h : opBranch b dd s = .next t) :
    ∃ w, t = s.setPC w := by
  cases h
  cases b
  case false => exact ⟨_, rfl⟩
  case true => exact ⟨_, rfl⟩

theorem State.writeBack_a_of_ne_acc (s : State) (v : Byte) {o : Target} (h : o ≠ .acc) : (s.writeBack v o).a = s.a := by
  cases o
  case acc => exact absurd rfl h
  case mem m => rfl

/-! ### Flags -/

/-- Settles O51: the laws of `setFlag` at the flag written and at another. -/
theorem flagsAreIndependent : Obligations.FlagsAreIndependent := by
  unfold Obligations.FlagsAreIndependent
  intro p f g b
  split
  · next h => rw [h, getFlag_setFlag_self]
  · next h => exact getFlag_setFlag_of_ne p b h

/-- An instruction changes no flag outside its writers' list (10_state.md R29-R36). -/
theorem effect_flag_eq {k : Mnemonic} {o : Operand} {s t : State} {f : Flag} (h : effect k o s = .next t)
    (hk : k ∉ writersOfFlag f) : t.flag f = s.flag f := by
  have hne : ∀ g, k ∈ writersOfFlag g → f ≠ g := by
    rintro g hg rfl
    exact hk hg
  cases k
  case jam => cases h
  case bcc | bcs | beq | bne | bmi | bpl | bvc | bvs => obtain ⟨w, rfl⟩ := opBranch_next_inv h; rfl
  case sta | stx | sty | sax | sha | shx | shy | tas | pha | php | txs | jmp | jsr | rts | nop => cases h; rfl
  case lda | ldx | ldy | tax | tay | txa | tya | tsx | pla | and | ora | eor | inc | dec | inx | iny | dex | dey | lax |
      xaa | lxa | las =>
    cases h
    exact State.flag_setNZ_of_ne _ _ (hne .z (by decide)) (hne .n (by decide))
  case cmp | cpx | cpy | slo | rla | sre | dcp | alr | sbx =>
    cases h
    exact State.flag_setFlag_setNZ_of_ne _ _ _ (hne .c (by decide)) (hne .z (by decide)) (hne .n (by decide))
  case asl | lsr | rol | ror =>
    cases h
    exact (State.flag_setFlag_setNZ_of_ne _ _ _ (hne .c (by decide)) (hne .z (by decide)) (hne .n (by decide))).trans
      (State.flag_writeBack ..)
  case anc =>
    cases h
    exact (State.flag_setFlag_of_ne _ _ (hne .c (by decide))).trans
      (State.flag_setNZ_of_ne _ _ (hne .z (by decide)) (hne .n (by decide)))
  case adc =>
    cases h
    exact State.flag_addWithCarry_of_ne _ _ (hne .c (by decide)) (hne .v (by decide)) (hne .z (by decide))
      (hne .n (by decide))
  case rra =>
    cases h
    exact (State.flag_addWithCarry_of_ne _ _ (hne .c (by decide)) (hne .v (by decide)) (hne .z (by decide))
      (hne .n (by decide))).trans (State.flag_setFlag_of_ne _ _ (hne .c (by decide)))
  case sbc | isc =>
    cases h
    exact State.flag_subtractWithCarry_of_ne _ _ (hne .c (by decide)) (hne .v (by decide)) (hne .z (by decide))
      (hne .n (by decide))
  case arr =>
    cases h
    exact (State.flag_setFlag_of_ne _ _ (hne .v (by decide))).trans
      ((State.flag_setFlag_of_ne _ _ (hne .c (by decide))).trans
        (State.flag_setNZ_of_ne _ _ (hne .z (by decide)) (hne .n (by decide))))
  case bit =>
    cases h
    exact (State.flag_setFlag_of_ne _ _ (hne .v (by decide))).trans
      ((State.flag_setFlag_of_ne _ _ (hne .n (by decide))).trans
        (State.flag_setFlag_of_ne _ _ (hne .z (by decide))))
  case clc | sec => cases h; exact State.flag_setFlag_of_ne _ _ (hne .c (by decide))
  case cli | sei => cases h; exact State.flag_setFlag_of_ne _ _ (hne .i (by decide))
  case cld | sed => cases h; exact State.flag_setFlag_of_ne _ _ (hne .d (by decide))
  case clv => cases h; exact State.flag_setFlag_of_ne _ _ (hne .v (by decide))
  case brk =>
    cases h
    rw [State.flag_eq, State.enterInterrupt_p]
    exact getFlag_setFlag_of_ne _ _ (hne .i (by decide))
  case plp | rti =>
    have hf : f = .b ∨ f = .u := by cases f <;> simp_all [writersOfFlag]
    cases h
    exact getFlag_pulledStatus_of_break_or_unused _ _ hf

/-- Settles O57: the meaning of an instruction is the effect of its tag. -/
theorem flagsChangeOnlyByWriters : Obligations.FlagsChangeOnlyByWriters := by
  unfold Obligations.FlagsChangeOnlyByWriters
  intro i s t f h hk
  rw [exec_eq_effect] at h
  exact effect_flag_eq h hk

/-- Settles O53: B and U have no writers. -/
theorem stepKeepsBreakAndUnused : Obligations.StepKeepsBreakAndUnused := by
  unfold Obligations.StepKeepsBreakAndUnused
  intro s t h
  obtain ⟨i, -, hi⟩ := step_next_inv h
  exact ⟨flagsChangeOnlyByWriters i s t .b hi List.not_mem_nil, flagsChangeOnlyByWriters i s t .u hi List.not_mem_nil⟩

/-! ### Registers -/

/-- X changes only under its writers (R22). -/
theorem effect_x_eq {k : Mnemonic} {o : Operand} {s t : State} (h : effect k o s = .next t) (hk : k ∉ writersOfX) :
    t.x = s.x := by
  cases k
  case jam => cases h
  case ldx | tax | tsx | inx | dex | lax | lxa | sbx | las => exact absurd (by decide) hk
  case bcc | bcs | beq | bne | bmi | bpl | bvc | bvs => obtain ⟨w, rfl⟩ := opBranch_next_inv h; rfl
  case asl | lsr | rol | ror => cases h; exact State.writeBack_x ..
  case brk => cases h; exact State.enterInterrupt_x ..
  all_goals cases h; rfl

/-- Y changes only under its writers (R23). -/
theorem effect_y_eq {k : Mnemonic} {o : Operand} {s t : State} (h : effect k o s = .next t) (hk : k ∉ writersOfY) :
    t.y = s.y := by
  cases k
  case jam => cases h
  case ldy | tay | iny | dey => exact absurd (by decide) hk
  case bcc | bcs | beq | bne | bmi | bpl | bvc | bvs => obtain ⟨w, rfl⟩ := opBranch_next_inv h; rfl
  case asl | lsr | rol | ror => cases h; exact State.writeBack_y ..
  case brk => cases h; exact State.enterInterrupt_y ..
  all_goals cases h; rfl

/-- SP changes only under its writers (R25). -/
theorem effect_sp_eq {k : Mnemonic} {o : Operand} {s t : State} (h : effect k o s = .next t) (hk : k ∉ writersOfSP) :
    t.sp = s.sp := by
  cases k
  case jam => cases h
  case pha | php | pla | plp | jsr | rts | brk | rti | txs | tas | las => exact absurd (by decide) hk
  case bcc | bcs | beq | bne | bmi | bpl | bvc | bvs => obtain ⟨w, rfl⟩ := opBranch_next_inv h; rfl
  case asl | lsr | rol | ror => cases h; exact State.writeBack_sp ..
  all_goals cases h; rfl

/-- A changes only under its writers (R21, shifts and rotates of memory included). -/
theorem effect_a_eq {k : Mnemonic} {o : Operand} {s t : State} (h : effect k o s = .next t) (hk : k ∉ writersOfA)
    (ho : k ∈ shifts → o.target ≠ .acc) : t.a = s.a := by
  cases k
  case jam => cases h
  case lda | pla | txa | tya | adc | sbc | and | ora | eor | slo | rla | sre | rra | lax | isc | anc | alr | arr | xaa |
      lxa | las => exact absurd (by decide) hk
  case bcc | bcs | beq | bne | bmi | bpl | bvc | bvs => obtain ⟨w, rfl⟩ := opBranch_next_inv h; rfl
  case asl | lsr | rol | ror => cases h; exact State.writeBack_a_of_ne_acc _ _ (ho (by decide))
  case brk => cases h; exact State.enterInterrupt_a ..
  all_goals cases h; rfl

/-- The operand of a shift or rotate other than the accumulator is in memory (42_shift_rotate.md). -/
theorem target_ne_acc_of_shift {i : Instr} (hk : i.mnemonic ∈ shifts) (ho : i.operand ≠ .acc) :
    i.operand.target ≠ .acc := by
  cases i
  case aslAcc | lsrAcc | rolAcc | rorAcc => exact absurd rfl ho
  case aslZp | aslZpx | aslAbs | aslAbsx | lsrZp | lsrZpx | lsrAbs | lsrAbsx | rolZp | rolZpx | rolAbs | rolAbsx |
      rorZp | rorZpx | rorAbs | rorAbsx => exact Target.noConfusion
  all_goals simp [Instr.mnemonic, Instr.descriptor, shifts] at hk

/-- Settles O56, register by register. -/
theorem registersChangeOnlyByWriters : Obligations.RegistersChangeOnlyByWriters := by
  unfold Obligations.RegistersChangeOnlyByWriters
  intro i s t h
  rw [exec_eq_effect] at h
  exact ⟨fun ha hacc => effect_a_eq h ha fun hk => target_ne_acc_of_shift hk (hacc hk), effect_x_eq h, effect_y_eq h,
    effect_sp_eq h⟩

/-! ### Canonical memory -/

/-- An instruction writes memory through `Memory.write` only, which keeps the canonical form. -/
theorem effect_mem_wf {k : Mnemonic} {o : Operand} {s t : State} (h : effect k o s = .next t) (hs : s.mem.wf) :
    t.mem.wf := by
  cases k
  case jam => cases h
  case bcc | bcs | beq | bne | bmi | bpl | bvc | bvs => obtain ⟨w, rfl⟩ := opBranch_next_inv h; exact hs
  case asl | lsr | rol | ror => cases h; exact State.writeBack_wf hs ..
  case sta | stx | sty | sax | sha | shx | shy | tas | inc | dec | slo | rla | sre | rra | dcp | isc | pha | php =>
    cases h
    exact Memory.write_wf hs ..
  case jsr => cases h; exact Memory.write_wf (Memory.write_wf hs ..) ..
  case brk =>
    cases h
    rw [State.enterInterrupt_mem]
    exact Memory.write_wf (Memory.write_wf (Memory.write_wf hs ..) ..) ..
  all_goals cases h; exact hs

/-- Settles O52: the instruction that was fetched keeps memory canonical. -/
theorem stepKeepsCanonicalMemory : Obligations.StepKeepsCanonicalMemory := by
  unfold Obligations.StepKeepsCanonicalMemory
  intro s t hs h
  obtain ⟨i, -, hi⟩ := step_next_inv h
  rw [exec_eq_effect] at hi
  exact effect_mem_wf hi hs

theorem Memory.lookupCell_eq_of_mem {m : Memory} (hm : m.Pairwise fun c d => c.1 < d.1) {c : Host.Cell} (hc : c ∈ m) :
    Memory.lookupCell m c.1 = c.2 := by
  induction m with
  | nil => cases hc
  | cons d m ih =>
    obtain ⟨hd, hm⟩ := List.pairwise_cons.1 hm
    rcases List.mem_cons.1 hc with rfl | hc
    · simp [Memory.lookupCell]
    · simp [Memory.lookupCell, (hd c hc).ne, ih hm hc]

theorem Memory.mem_of_lookupCell_ne_zero {m : Memory} {n : Nat} (h : Memory.lookupCell m n ≠ 0) :
    (n, Memory.lookupCell m n) ∈ m := by
  induction m with
  | nil => exact absurd rfl h
  | cons d m ih =>
    by_cases hd : d.1 = n
    · subst hd
      simp [Memory.lookupCell]
    · simp only [Memory.lookupCell, hd, if_false] at h ⊢
      exact List.mem_cons_of_mem d (ih h)

/-- The cells of a canonical memory are the addresses that do not read 0x00, each with its byte (10_state.md R38). -/
theorem Memory.mem_iff_read {m : Memory} (hm : m.wf) (c : Host.Cell) :
    c ∈ m ↔ ∃ a : Word, m.read a ≠ 0 ∧ c = (a.toNat, m.read a) := by
  constructor
  · intro hc
    obtain ⟨hlt, hne⟩ := hm.2 c hc
    have hread : m.read (BitVec.ofNat 16 c.1) = c.2 := by
      rw [Memory.read, BitVec.toNat_ofNat, Nat.mod_eq_of_lt hlt, Memory.lookupCell_eq_of_mem hm.1 hc]
    refine ⟨BitVec.ofNat 16 c.1, hread ▸ hne, ?_⟩
    rw [hread, BitVec.toNat_ofNat, Nat.mod_eq_of_lt hlt]
  · rintro ⟨a, ha, rfl⟩
    exact Memory.mem_of_lookupCell_ne_zero ha

/-- Settles O50: the cells of a canonical memory are determined by its reads, and rising lists with the same cells are
equal. -/
theorem canonicalMemoryIsUnique : Obligations.CanonicalMemoryIsUnique := by
  unfold Obligations.CanonicalMemoryIsUnique
  intro m n hm hn hread
  have hirrefl : Std.Irrefl fun c d : Host.Cell => c.1 < d.1 := ⟨fun c => Nat.lt_irrefl c.1⟩
  have hanti : Std.Antisymm fun c d : Host.Cell => c.1 < d.1 := ⟨fun c d hcd hdc => absurd hcd (Nat.lt_asymm hdc)⟩
  refine hm.1.eq_of_mem_iff hn.1 fun c => ?_
  simp only [Memory.mem_iff_read hm, Memory.mem_iff_read hn, hread]

end Sys2Proof.Machine

/-! ### States that agree on everything but one flag -/

namespace Sys2Proof.Stating

open Sys2Proof.Machine

section
variable {f : Flag} {s s' : State}

/-- Agreement is a difference in P alone. -/
theorem AgreeExcept.exists_setP (h : AgreeExcept f s s') : ∃ q, s' = s.setP q := by
  obtain ⟨ha, hx, hy, hsp, hpc, hmem, -⟩ := h
  refine ⟨s'.p, ?_⟩
  cases s
  cases s'
  simp_all [State.setP]

/-- A flag other than the excepted one reads alike. -/
theorem AgreeExcept.flag_eq (h : AgreeExcept f s s') {g : Flag} (hg : g ≠ f) : s'.flag g = s.flag g := by
  obtain ⟨-, -, -, -, -, -, hflag⟩ := h
  exact (hflag g hg).symm

/-! Each operation, applied to both states with the same values, keeps the agreement. -/

theorem AgreeExcept.setA (h : AgreeExcept f s s') (v : Byte) : AgreeExcept f (s.setA v) (s'.setA v) := by
  obtain ⟨-, hrest⟩ := h
  exact ⟨rfl, hrest⟩

theorem AgreeExcept.setX (h : AgreeExcept f s s') (v : Byte) : AgreeExcept f (s.setX v) (s'.setX v) := by
  obtain ⟨ha, -, hrest⟩ := h
  exact ⟨ha, rfl, hrest⟩

theorem AgreeExcept.setY (h : AgreeExcept f s s') (v : Byte) : AgreeExcept f (s.setY v) (s'.setY v) := by
  obtain ⟨ha, hx, -, hrest⟩ := h
  exact ⟨ha, hx, rfl, hrest⟩

theorem AgreeExcept.setSP (h : AgreeExcept f s s') (v : Byte) : AgreeExcept f (s.setSP v) (s'.setSP v) := by
  obtain ⟨ha, hx, hy, -, hrest⟩ := h
  exact ⟨ha, hx, hy, rfl, hrest⟩

theorem AgreeExcept.setPC (h : AgreeExcept f s s') (w : Word) : AgreeExcept f (s.setPC w) (s'.setPC w) := by
  obtain ⟨ha, hx, hy, hsp, -, hrest⟩ := h
  exact ⟨ha, hx, hy, hsp, rfl, hrest⟩

theorem AgreeExcept.advance (h : AgreeExcept f s s') (n : Nat) : AgreeExcept f (s.advance n) (s'.advance n) := by
  obtain ⟨ha, hx, hy, hsp, hpc, hrest⟩ := h
  exact ⟨ha, hx, hy, hsp, by simp [hpc], hrest⟩

theorem AgreeExcept.write (h : AgreeExcept f s s') (w : Word) (v : Byte) :
    AgreeExcept f (s.write w v) (s'.write w v) := by
  obtain ⟨ha, hx, hy, hsp, hpc, hmem, hflag⟩ := h
  exact ⟨ha, hx, hy, hsp, hpc, by simp [hmem], hflag⟩

theorem AgreeExcept.setP (h : AgreeExcept f s s') {p p' : Byte} (hp : ∀ g, g ≠ f → getFlag p g = getFlag p' g) :
    AgreeExcept f (s.setP p) (s'.setP p') := by
  obtain ⟨ha, hx, hy, hsp, hpc, hmem, -⟩ := h
  exact ⟨ha, hx, hy, hsp, hpc, hmem, hp⟩

theorem AgreeExcept.setFlag (h : AgreeExcept f s s') (k : Flag) (b : Bool) :
    AgreeExcept f (s.setFlag k b) (s'.setFlag k b) := by
  refine h.setP fun g hg => ?_
  by_cases hk : g = k
  · subst hk
    simp
  · rw [getFlag_setFlag_of_ne _ _ hk, getFlag_setFlag_of_ne _ _ hk]
    exact (h.flag_eq hg).symm

theorem AgreeExcept.setNZ (h : AgreeExcept f s s') (r : Byte) : AgreeExcept f (s.setNZ r) (s'.setNZ r) :=
  (h.setFlag .z (r == 0)).setFlag .n (r.getLsbD 7)

theorem AgreeExcept.push (h : AgreeExcept f s s') (v : Byte) : AgreeExcept f (s.push v) (s'.push v) := by
  obtain ⟨q, rfl⟩ := h.exists_setP
  exact (h.write _ _).setSP _

theorem AgreeExcept.drop (h : AgreeExcept f s s') : AgreeExcept f s.drop s'.drop := by
  obtain ⟨q, rfl⟩ := h.exists_setP
  exact h.setSP _

theorem AgreeExcept.writeBack (h : AgreeExcept f s s') (v : Byte) (o : Target) :
    AgreeExcept f (s.writeBack v o) (s'.writeBack v o) := by
  obtain ⟨q, rfl⟩ := h.exists_setP
  cases o
  case acc => exact h.setA v
  case mem m => exact h.write (s.ea m) v

theorem AgreeExcept.compare (h : AgreeExcept f s s') (r m : Byte) : AgreeExcept f (s.compare r m) (s'.compare r m) :=
  (h.setFlag _ _).setNZ _

/-- PLP and RTI take every flag but B and U from the pulled byte, which is the same in both. -/
theorem AgreeExcept.setPulledStatus (h : AgreeExcept f s s') {t t' : State} (ht : AgreeExcept f t t') (v : Byte) :
    AgreeExcept f (t.setP (pulledStatus s.p v)) (t'.setP (pulledStatus s'.p v)) := by
  refine ht.setP fun g hg => ?_
  rw [getFlag_pulledStatus, getFlag_pulledStatus, ← State.flag_eq, ← State.flag_eq, h.flag_eq hg]

theorem AgreeExcept.addWithCarry (h : AgreeExcept f s s') (hc : .c ≠ f) (m : Byte) :
    AgreeExcept f (s.addWithCarry m) (s'.addWithCarry m) := by
  have hcarry := h.flag_eq hc
  obtain ⟨q, rfl⟩ := h.exists_setP
  simp only [State.addWithCarry, hcarry]
  exact (((h.setFlag _ _).setFlag _ _).setA _).setNZ _

theorem AgreeExcept.subtractWithCarry (h : AgreeExcept f s s') (hc : .c ≠ f) (m : Byte) :
    AgreeExcept f (s.subtractWithCarry m) (s'.subtractWithCarry m) := by
  have hcarry := h.flag_eq hc
  obtain ⟨q, rfl⟩ := h.exists_setP
  simp only [State.subtractWithCarry, hcarry]
  exact (((h.setFlag _ _).setFlag _ _).setA _).setNZ _

end

/-- Both results are next states that agree on everything but the flag, or both are the outcome Stopped. -/
def SameOutcome (f : Flag) (r r' : Result) : Prop :=
  (∃ t t', r = .next t ∧ r' = .next t' ∧ AgreeExcept f t t') ∨ (r = .fault .stopped ∧ r' = .fault .stopped)

theorem AgreeExcept.next {f : Flag} {t t' : State} (h : AgreeExcept f t t') : SameOutcome f (.next t) (.next t') :=
  .inl ⟨t, t', rfl, rfl, h⟩

section
variable {f : Flag} {s s' : State}

/-- A branch on a condition that holds in both states or in neither. -/
theorem AgreeExcept.branch (h : AgreeExcept f s s') {b b' : Bool} (hb : b' = b) (dd : Byte) :
    SameOutcome f (opBranch b dd s) (opBranch b' dd s') := by
  obtain ⟨q, rfl⟩ := h.exists_setP
  subst hb
  cases b'
  case false => exact (h.advance 2).next
  case true => exact (h.setPC _).next

/-- Outside PHP and BRK an instruction reads of the flags C, Z, N and V at most, so D and I steer nothing (10_state.md
R31, R32; 41_arithmetic.md R126). The second state is written as the first with another P, so that every read of another
part is the same by definition; the carry is rewritten where it is read. -/
theorem effect_sameOutcome (h : AgreeExcept f s s') (hf : f = .d ∨ f = .i) {k : Mnemonic} (o : Operand)
    (hphp : k ≠ .php) (hbrk : k ≠ .brk) : SameOutcome f (effect k o s) (effect k o s') := by
  have hread : ∀ g, g ≠ .d → g ≠ .i → g ≠ f := by rintro g hd hi rfl; exact hf.elim hd hi
  have cf : .c ≠ f := hread .c (by decide) (by decide)
  have hc := h.flag_eq cf
  have hz := h.flag_eq (hread .z (by decide) (by decide))
  have hn := h.flag_eq (hread .n (by decide) (by decide))
  have hv := h.flag_eq (hread .v (by decide) (by decide))
  obtain ⟨q, rfl⟩ := h.exists_setP
  cases k
  case php => exact absurd rfl hphp
  case brk => exact absurd rfl hbrk
  case jam => exact .inr ⟨rfl, rfl⟩
  case adc => exact ((h.addWithCarry cf _).advance _).next
  case sbc => exact ((h.subtractWithCarry cf _).advance _).next
  case cmp | cpx | cpy => exact ((h.compare _ _).advance _).next
  case asl | lsr => exact ((((h.writeBack _ _).setFlag _ _).setNZ _).advance _).next
  case rol | ror =>
    simp only [effect, opRol, opRor, hc]
    exact ((((h.writeBack _ _).setFlag _ _).setNZ _).advance _).next
  case inc | dec => exact (((h.write _ _).setNZ _).advance _).next
  case bcc | bcs => exact h.branch (by rw [hc]) _
  case beq | bne => exact h.branch (by rw [hz]) _
  case bmi | bpl => exact h.branch (by rw [hn]) _
  case bvc | bvs => exact h.branch (by rw [hv]) _
  case pha => exact ((h.push _).advance _).next
  case pla => exact (((h.drop.setA _).setNZ _).advance _).next
  case plp => exact ((h.setPulledStatus h.drop _).advance _).next
  case txs => exact ((h.setSP _).advance _).next
  case jmp => exact (h.setPC _).next
  case jsr => exact (((h.push _).push _).setPC _).next
  case rts => exact (h.drop.drop.setPC _).next
  case rti => exact ((h.setPulledStatus h.drop _).drop.drop.setPC _).next
  case lda | and | ora | eor | txa | tya | xaa => exact (((h.setA _).setNZ _).advance _).next
  case ldx | tax | tsx | inx | dex => exact (((h.setX _).setNZ _).advance _).next
  case ldy | tay | iny | dey => exact (((h.setY _).setNZ _).advance _).next
  case sta | stx | sty | sax | sha | shx | shy => exact ((h.write _ _).advance _).next
  case bit => exact ((((h.setFlag _ _).setFlag _ _).setFlag _ _).advance _).next
  case clc | sec | cli | sei | cld | sed | clv => exact ((h.setFlag _ _).advance _).next
  case nop => exact (h.advance _).next
  case slo | sre => exact (((((h.write _ _).setFlag _ _).setA _).setNZ _).advance _).next
  case rla =>
    simp only [effect, opRla, hc]
    exact (((((h.write _ _).setFlag _ _).setA _).setNZ _).advance _).next
  case rra =>
    simp only [effect, opRra, hc]
    exact ((((h.write _ _).setFlag _ _).addWithCarry cf _).advance _).next
  case dcp => exact (((h.write _ _).compare _ _).advance _).next
  case isc => exact (((h.write _ _).subtractWithCarry cf _).advance _).next
  case lax | lxa => exact ((((h.setA _).setX _).setNZ _).advance _).next
  case anc => exact ((((h.setA _).setNZ _).setFlag _ _).advance _).next
  case alr => exact ((((h.setFlag _ _).setA _).setNZ _).advance _).next
  case arr =>
    simp only [effect, opArr, hc]
    exact (((((h.setA _).setNZ _).setFlag _ _).setFlag _ _).advance _).next
  case sbx => exact (((h.compare _ _).setX _).advance _).next
  case las => exact (((((h.setA _).setX _).setSP _).setNZ _).advance _).next
  case tas => exact (((h.setSP _).write _ _).advance _).next

end

/-- Settles O60: every operation of every instruction, PHP and BRK apart, takes states that agree to states that
agree. -/
theorem decimalAndInterruptFlagsSteerNothing : Obligations.DecimalAndInterruptFlagsSteerNothing := by
  unfold Obligations.DecimalAndInterruptFlagsSteerNothing
  intro f hf i s s' hphp hbrk h
  rw [exec_eq_effect, exec_eq_effect]
  exact effect_sameOutcome h (by simpa using hf) i.operand hphp hbrk

end Sys2Proof.Stating
end

section
/-! PROOFS. Memory (20_memory.md): a read returns the last write, and only the writers of R53 change a byte. -/

namespace Sys2Proof.Machine

open Sys2Proof.Stating

/-- Settles O49: the two laws of a read after a write, whatever the memory. -/
theorem readReturnsLastWrite : Obligations.ReadReturnsLastWrite := by
  unfold Obligations.ReadReturnsLastWrite
  intro m a b v
  exact ⟨m.read_write_self a v, m.read_write_of_ne v⟩

/-- Memory as a whole changes only under its writers (20_memory.md R53). A shift or rotate writes back to its target, so
with the accumulator as its operand it leaves memory alone. -/
theorem effect_mem_eq {k : Mnemonic} {o : Operand} {s t : State} (h : effect k o s = .next t) (hk : k ∉ writersOfMemory)
    (ho : k ∈ shifts → o = .acc) : t.mem = s.mem := by
  cases k
  case jam => cases h
  case sta | stx | sty | sax | sha | shx | shy | tas | inc | dec | slo | rla | sre | rra | dcp | isc | pha | php | jsr |
      brk => exact absurd (by decide) hk
  case bcc | bcs | beq | bne | bmi | bpl | bvc | bvs => obtain ⟨w, rfl⟩ := opBranch_next_inv h; rfl
  case asl | lsr | rol | ror => obtain rfl := ho (by decide); cases h; rfl
  all_goals cases h; rfl

/-- Settles O58: a memory that is the same reads alike at every address. -/
theorem memoryChangesOnlyByWriters : Obligations.MemoryChangesOnlyByWriters := by
  unfold Obligations.MemoryChangesOnlyByWriters
  intro i s t h hk ho a
  rw [exec_eq_effect] at h
  rw [State.read_eq, State.read_eq, effect_mem_eq h hk ho]

end Sys2Proof.Machine
end

section
/-! PROOFS. The encoding (30_encoding.md): what the decoder reads back is what the encoder wrote, and both follow the
opcode map. -/

namespace Sys2Proof

/-! ### What a row of the decoder makes, and from which bytes

A row of one byte uses neither the Byte nor the Word, a row of two bytes the Byte, a row of three bytes the Word, so
that one equation speaks of every row. -/

/-- The instruction a row makes of an operand Byte or of an operand Word. -/
def DecodeRow.make (b : Byte) (w : Word) : DecodeRow → Instr
  | .one i => i
  | .two f => f b
  | .three f => f w

/-- The bytes a row takes after the opcode (R72). -/
def DecodeRow.operandBytes (b : Byte) (w : Word) : DecodeRow → List Byte
  | .one _ => []
  | .two _ => [b]
  | .three _ => [loByte w, hiByte w]

/-- The decoder reads a row's operand bytes as the instruction the row makes of them (R71). -/
theorem decode_operandBytes {op : Byte} {row : DecodeRow} (h : decodeRow op = some row) (b : Byte) (w : Word)
    (rest : List Byte) : decode (op :: row.operandBytes b w ++ rest) = .ok (row.make b w, rest) := by
  cases row with
  | one i => exact decode_one h rest
  | two f => exact decode_two h b rest
  | three f => simpa [DecodeRow.operandBytes, DecodeRow.make] using decode_three h (loByte w) (hiByte w) rest

/-- Two bytes are enough for every row: a row takes none of them, the first, or both with the low byte first. -/
theorem DecodeRow.exists_eq_operandBytes_append (row : DecodeRow) (b1 b2 : Byte) (rest : List Byte) :
    ∃ left, b1 :: b2 :: rest = row.operandBytes b1 (joinBytes b2 b1) ++ left := by
  cases row with
  | one i => exact ⟨b1 :: b2 :: rest, rfl⟩
  | two f => exact ⟨b2 :: rest, rfl⟩
  | three f => exact ⟨rest, by simp [operandBytes]⟩

/-! ### The decoder table against the encoder -/

/-- The decoder table, cell by cell: what the cell of row `r` and column `c` makes encodes as the opcode `rc` and the
bytes it was made of (R75). -/
theorem encode_make_of_decodeTable (b : Byte) (w : Word) :
    ∀ r < 16, ∀ c < 16, ∀ row, (decodeTable[r]?.bind fun cells => cells[c]?) = some row →
      encode (row.make b w) = BitVec.ofNat 8 (16 * r + c) :: row.operandBytes b w := by
  intro r hr c hc
  interval_cases r <;> interval_cases c <;> rintro _ ⟨⟩ <;> rfl

/-- What the decoder row of an opcode makes encodes as that opcode and the bytes it was made of. -/
theorem encode_make {op : Byte} {row : DecodeRow} (h : decodeRow op = some row) (b : Byte) (w : Word) :
    encode (row.make b w) = op :: row.operandBytes b w := by
  have hcell :=
    encode_make_of_decodeTable b w (op.toNat / 16) (by have := op.isLt; omega) (op.toNat % 16) (by omega) row h
  rwa [Nat.div_add_mod, BitVec.ofNat_toNat, BitVec.setWidth_eq] at hcell

/-- The row at an instruction's opcode makes the instruction of its own operand. The opcode is first reduced to its
literal, without the operand in it, so that the lookup computes. -/
theorem decodeRow_opcode (i : Instr) :
    (decodeRow i.opcode).map (DecodeRow.make (i.operand.bytes.headD 0) i.operand.address) = some i := by
  cases i <;> dsimp only [Instr.opcode, Instr.descriptor] <;> rfl

/-- Settles O43: an instruction is what the row at its opcode makes, so it encodes as the bytes that row reads. -/
theorem decodeOfEncode : Obligations.DecodeOfEncode := by
  unfold Obligations.DecodeOfEncode
  intro i rest
  obtain ⟨row, hrow, hmake⟩ := Option.map_eq_some_iff.1 (decodeRow_opcode i)
  have hdecode := decode_operandBytes hrow (i.operand.bytes.headD 0) i.operand.address rest
  rwa [← encode_make hrow, hmake] at hdecode

/-- Settles O44: every opcode has a row, which reads the bytes it takes as the instruction it makes of them. -/
theorem everyOpcodeDecodes : Obligations.EveryOpcodeDecodes := by
  unfold Obligations.EveryOpcodeDecodes
  intro op b1 b2 rest
  obtain ⟨row, hrow⟩ := Option.isSome_iff_exists.1 (decodeRow_isSome op)
  obtain ⟨left, hleft⟩ := row.exists_eq_operandBytes_append b1 b2 rest
  refine ⟨row.make b1 (joinBytes b2 b1), left, ?_, ?_⟩
  · rw [hleft]
    exact decode_operandBytes hrow b1 (joinBytes b2 b1) left
  · rw [hleft, encode_make hrow, List.cons_append]

/-! ### The opcode map -/

/-- A table entry is well formed when the opcode map has its mnemonic and its format at its opcode. -/
theorem Descriptor.wellFormed_iff (d : Descriptor) :
    d.wellFormed = true ↔ tableEntry d.opcode = some (d.mnemonic, d.operand.format) := by
  cases h : tableEntry d.opcode <;> simp [wellFormed, mnemonicOk, formatOk, h, Prod.ext_iff]

/-- The opcode map at an instruction's opcode (R75), a lookup per constructor as in `decodeRow_opcode`. -/
theorem tableEntry_opcode (i : Instr) : tableEntry i.opcode = some (i.mnemonic, i.operand.format) := by
  cases i <;> dsimp only [Instr.opcode, Instr.descriptor] <;> rfl

/-- Settles O45: the entry of the opcode map is also what well-formedness asks for. -/
theorem everyInstructionIsInTheMap : Obligations.EveryInstructionIsInTheMap := by
  unfold Obligations.EveryInstructionIsInTheMap
  intro i
  exact ⟨i.descriptor.wellFormed_iff.2 (tableEntry_opcode i), tableEntry_opcode i⟩

/-! ### Words written out from the opcode map -/

/-- Settles O42: each word is read by the row at its opcode, and the two short lists end before their row does. -/
theorem specWordsDecode : Obligations.SpecWordsDecode := by
  unfold Obligations.SpecWordsDecode
  exact ⟨decode_two rfl 0x10 [], decode_three rfl 0xF0 0x12 [], decode_three rfl 0xFF 0x10 [], decode_two rfl 0xFF [],
    decode_two rfl 0xEA [], decode_two rfl 0xF8 [], decode_three rfl 0x00 0x04 [], decode_one rfl [], rfl, rfl⟩

end Sys2Proof
end

section
/-! PROOFS. The engine (40_engine.md): a step runs the instruction at PC, stops exactly at a JAM, and moves PC past the
instruction unless it redirects. -/

namespace Sys2Proof.Machine

open Sys2Proof.Stating

/-! ### The fetch -/

/-- The instruction that a row of the decoder makes of the operand bytes after PC (20_memory.md R51). -/
def State.fetched (s : State) (row : DecodeRow) : Instr :=
  row.make (s.read (s.pc + 1)) (joinBytes (s.read (s.pc + 1 + 1)) (s.read (s.pc + 1)))

/-- The fetch answers what the row of the opcode at PC makes: the fetch reads exactly the bytes that row takes. -/
theorem State.fetch_eq_fetched {s : State} {row : DecodeRow} (h : decodeRow (s.read s.pc) = some row) :
    s.fetch = .ok (s.fetched row) := by
  apply State.fetch_of_decode (left := [])
  rw [State.fetchBytes, opcodeLength, h]
  cases row with
  | one i => exact decode_one h []
  | two f => exact decode_two h _ []
  | three f => exact decode_three h _ _ []

/-- Three bytes from PC on decode to the same instruction, whatever bytes it leaves over. -/
theorem State.decode_bytesFrom_pc {s : State} {row : DecodeRow} (h : decodeRow (s.read s.pc) = some row) :
    ∃ left, decode (s.mem.bytesFrom s.pc 3) = .ok (s.fetched row, left) := by
  obtain ⟨left, hleft⟩ := row.exists_eq_operandBytes_append (s.read (s.pc + 1)) (s.read (s.pc + 1 + 1)) []
  have hbytes : s.mem.bytesFrom s.pc 3 = [s.read s.pc, s.read (s.pc + 1), s.read (s.pc + 1 + 1)] := rfl
  exact ⟨left, by rw [hbytes, hleft]; exact decode_operandBytes h _ _ left⟩

/-- What a row makes has the opcode the row stands at. -/
theorem State.fetched_opcode {s : State} {row : DecodeRow} (h : decodeRow (s.read s.pc) = some row) :
    (s.fetched row).opcode = s.read s.pc :=
  (List.cons.inj (encode_make h _ _)).1

/-- Every fetch answers an instruction, whose opcode is the byte at PC (R70, R90). -/
theorem State.exists_fetch (s : State) : ∃ i, s.fetch = .ok i ∧ i.opcode = s.read s.pc := by
  obtain ⟨row, hrow⟩ := Option.isSome_iff_exists.1 (decodeRow_isSome (s.read s.pc))
  exact ⟨s.fetched row, State.fetch_eq_fetched hrow, State.fetched_opcode hrow⟩

/-- Settles O46: the fetch and the decoding of three bytes go through the same row. -/
theorem stepRunsDecodedInstruction : Obligations.StepRunsDecodedInstruction := by
  unfold Obligations.StepRunsDecodedInstruction
  intro s i left h
  obtain ⟨row, hrow⟩ := Option.isSome_iff_exists.1 (decodeRow_isSome (s.read s.pc))
  obtain ⟨left', hleft'⟩ := State.decode_bytesFrom_pc hrow
  obtain ⟨rfl, -⟩ := Prod.mk.inj (Except.ok.inj (hleft'.symm.trans h))
  exact step_of_fetch (State.fetch_eq_fetched hrow)

/-! ### Stopping -/

/-- Every instruction but a JAM completes (R107). -/
theorem exists_effect_eq_next {k : Mnemonic} (hk : k ≠ .jam) (o : Operand) (s : State) :
    ∃ t, effect k o s = .next t := by
  cases k
  case jam => exact absurd rfl hk
  all_goals exact ⟨_, rfl⟩

/-- Only a JAM stops (R107, 49_undocumented.md R233). -/
theorem effect_eq_stopped_iff {k : Mnemonic} {o : Operand} {s : State} :
    effect k o s = .fault .stopped ↔ k = .jam := by
  constructor
  · intro h
    by_contra hk
    obtain ⟨t, ht⟩ := exists_effect_eq_next hk o s
    cases ht.symm.trans h
  · rintro rfl
    rfl

/-- The opcode map has JAM at PC when the instruction of that opcode is a JAM (30_encoding.md R77). -/
theorem atJam_iff_of_opcode {s : State} {i : Instr} (h : i.opcode = s.read s.pc) : AtJam s ↔ i.mnemonic = .jam := by
  simp [AtJam, ← h, tableEntry_opcode]

/-- Settles O55: the step is the effect of the instruction whose opcode stands at PC. -/
theorem stoppedExactlyAtJam : Obligations.StoppedExactlyAtJam := by
  unfold Obligations.StoppedExactlyAtJam
  intro s
  obtain ⟨i, hfetch, hop⟩ := s.exists_fetch
  rw [step_of_fetch hfetch, exec_eq_effect, effect_eq_stopped_iff, atJam_iff_of_opcode hop]

/-! ### PC -/

/-- How far the effect of a tag on an operand moves PC when it does not redirect it: a literal where the tag has one
format only, else the length of the operand as the tag reads it. -/
def advanceLength (k : Mnemonic) (o : Operand) : Nat :=
  match k with
  | .lda | .ldx | .ldy | .adc | .sbc | .cmp | .cpx | .cpy | .and | .ora | .eor => o.source.length
  | .asl | .lsr | .rol | .ror => o.target.length
  | .inc | .dec | .sta | .stx | .sty | .bit | .slo | .rla | .sre | .rra | .dcp | .isc | .sax | .lax | .las =>
    o.memory.length
  | .inx | .iny | .dex | .dey | .pha | .php | .pla | .plp | .tsx | .txs | .tax | .tay | .txa | .tya | .clc | .sec |
    .cli | .sei | .cld | .sed | .clv => 1
  | .anc | .alr | .arr | .xaa | .lxa | .sbx => 2
  | .tas => Format.absy.length
  | _ => o.format.length

/-- On an instruction's own operand that is the instruction's length (30_encoding.md R72). -/
theorem advanceLength_eq_length (i : Instr) : advanceLength i.mnemonic i.operand = i.length := by
  cases i <;> rfl

/-- An effect that does not redirect PC ends by advancing it (R104), after steps that leave it alone. -/
theorem effect_pc_eq {k : Mnemonic} {o : Operand} {s t : State} (h : effect k o s = .next t) (hk : k ∉ redirectPC) :
    t.pc = s.pc + BitVec.ofNat 16 (advanceLength k o) := by
  cases k
  case jam => cases h
  case bcc | bcs | beq | bne | bmi | bpl | bvc | bvs | jmp | jsr | rts | brk | rti => exact absurd (by decide) hk
  case asl | lsr | rol | ror => cases h; exact congrArg (· + _) (State.writeBack_pc ..)
  all_goals cases h; rfl

/-- Settles O59: the meaning of an instruction is the effect of its tag on its operand. -/
theorem pcAdvancesByLength : Obligations.PCAdvancesByLength := by
  unfold Obligations.PCAdvancesByLength
  intro i s t h hk
  rw [exec_eq_effect] at h
  rw [effect_pc_eq h hk, advanceLength_eq_length]

end Sys2Proof.Machine
end

section
/-! PROOFS. Operands (40_engine.md R93-R106): each form of a statement speaks of one memory operand and its effective
address, and an operation on what it reads gives a statement about all the forms it has. -/

namespace Sys2Proof.Stating

open Sys2Proof.Machine

/-! ### Effective addresses as the spec writes them -/

/-- A zero-extended Byte is the address with its number. -/
theorem zext16_eq_addr (b : Byte) : zext16 b = addr b.toNat := (BitVec.ofNat_toNat 16 b).symm

/-- An index is added to a zero-page address modulo 256 (R96). -/
theorem zext16_add (z i : Byte) : zext16 (z + i) = addr ((z.toNat + i.toNat) % 256) := by
  rw [zext16_eq_addr, BitVec.toNat_add]

/-- An index is added to an address modulo 65,536 (R98). -/
theorem addr_add_zext16 (n : Nat) (i : Byte) : addr n + zext16 i = addr (n + i.toNat) := by
  rw [zext16_eq_addr, addr, addr, addr, BitVec.ofNat_add]

/-- A Word is the address with its number. -/
theorem addr_toNat (w : Word) : addr w.toNat = w := by
  simp [addr]

theorem joinBytes_eq_addr (hi lo : Byte) : joinBytes hi lo = addr (hi.toNat * 256 + lo.toNat) := by
  have hjoin : (joinBytes hi lo).toNat = hi.toNat * 256 + lo.toNat := by
    rw [joinBytes, BitVec.toNat_append, ← Nat.shiftLeft_add_eq_or_of_lt lo.isLt, Nat.shiftLeft_eq]
  rw [← hjoin, addr_toNat]

/-- The Word at a zero-page pointer, its second byte at the next address modulo 256 (R101, R102). -/
theorem readZeroPageWord_eq_addr (s : State) (z : Byte) :
    s.mem.readZeroPageWord z = addr (pointer s z.toNat) := by
  rw [Memory.readZeroPageWord, joinBytes_eq_addr, zext16_add, zext16_eq_addr]
  rfl

theorem ea_absIndexed (hhll : Word) (i : Byte) : Indexed.ea ⟨hhll, i⟩ = addr (hhll.toNat + i.toNat) := by
  rw [← addr_add_zext16, addr_toNat, Indexed.ea]

theorem ea_izx (s : State) (zz : Byte) :
    s.ea (.izx zz) = addr (pointer s ((zz.toNat + s.x.toNat) % 256)) := by
  rw [State.ea, readZeroPageWord_eq_addr, BitVec.toNat_add]

theorem ea_izy (s : State) (zz : Byte) : s.ea (.izy zz) = addr (pointer s zz.toNat + s.y.toNat) := by
  rw [← addr_add_zext16, ← readZeroPageWord_eq_addr]
  rfl

/-! ### The forms of the statements, by memory operand -/

/-- The form for one memory operand: the instruction completes, PC moves past the operand, and the property holds of
the effective address. -/
def OnMem (i : Instr) (m : MemOperand) (post : State → Word → State → Prop) : Prop :=
  ∀ s, Runs i s fun t => t.pc = s.pc + BitVec.ofNat 16 m.length ∧ post s (s.ea m) t

section
variable {i : Byte → Instr} {j : Word → Instr} {post : State → Word → State → Prop}

theorem onZp_iff : OnZp i post ↔ ∀ zz, OnMem (i zz) (.zp zz) post := by
  simp only [OnZp, OnMem, State.ea, zext16_eq_addr]
  rfl

theorem onZpx_iff : OnZpx i post ↔ ∀ zz, OnMem (i zz) (.zpx zz) post := by
  simp only [OnZpx, OnMem, State.ea, zext16_add]
  rfl

theorem onAbs_iff : OnAbs j post ↔ ∀ hhll, OnMem (j hhll) (.abs hhll) post := Iff.rfl

theorem onAbsx_iff : OnAbsx j post ↔ ∀ hhll, OnMem (j hhll) (.absx hhll) post := by
  simp only [OnAbsx, OnMem, State.ea, State.absx, ea_absIndexed]
  rfl

theorem onAbsy_iff : OnAbsy j post ↔ ∀ hhll, OnMem (j hhll) (.absy hhll) post := by
  simp only [OnAbsy, OnMem, State.ea, State.absy, ea_absIndexed]
  rfl

theorem onIzx_iff : OnIzx i post ↔ ∀ zz, OnMem (i zz) (.izx zz) post := by
  simp only [OnIzx, OnMem, ea_izx]
  rfl

theorem onIzy_iff : OnIzy i post ↔ ∀ zz, OnMem (i zz) (.izy zz) post := by
  simp only [OnIzy, OnMem, ea_izy]
  rfl

end

/-! ### Operations on a Byte that is read -/

/-- The operation completes on every source, moves PC past it, and has the property of the Byte it reads. -/
def OnSource (op : Source → State → Result) (post : State → Byte → State → Prop) : Prop :=
  ∀ o s, ∃ t, op o s = .next t ∧ t.pc = s.pc + BitVec.ofNat 16 o.length ∧ post s (s.sourceByte o) t

section
variable {op : Source → State → Result} {post : State → Byte → State → Prop}

theorem OnSource.onImm (h : OnSource op post) {i : Byte → Instr} (hi : ∀ ii s, exec (i ii) s = op (.imm ii) s) :
    OnImm i post := by
  intro ii s
  obtain ⟨t, hop, hpost⟩ := h (.imm ii) s
  exact ⟨t, (hi ii s).trans hop, hpost⟩

theorem OnSource.onMem (h : OnSource op post) {i : Instr} {m : MemOperand} (hi : ∀ s, exec i s = op (.mem m) s) :
    OnMem i m (reading post) := by
  intro s
  obtain ⟨t, hop, hpost⟩ := h (.mem m) s
  exact ⟨t, (hi s).trans hop, hpost⟩

/-- The eight reading forms of an operation: the six of a Byte operand, then the three of a Word. -/
theorem OnSource.onReading8 (h : OnSource op post) {imm zp zpx izx izy : Byte → Instr} {abs absx absy : Word → Instr}
    (hbyte : ∀ b s, exec (imm b) s = op (.imm b) s ∧ exec (zp b) s = op (.mem (.zp b)) s ∧
      exec (zpx b) s = op (.mem (.zpx b)) s ∧ exec (izx b) s = op (.mem (.izx b)) s ∧
      exec (izy b) s = op (.mem (.izy b)) s)
    (hword : ∀ w s, exec (abs w) s = op (.mem (.abs w)) s ∧ exec (absx w) s = op (.mem (.absx w)) s ∧
      exec (absy w) s = op (.mem (.absy w)) s) :
    OnReading8 imm zp zpx abs absx absy izx izy post := by
  simp only [forall_and] at hbyte hword
  obtain ⟨himm, hzp, hzpx, hizx, hizy⟩ := hbyte
  obtain ⟨habs, habsx, habsy⟩ := hword
  exact ⟨h.onImm himm, onZp_iff.2 fun b => h.onMem (hzp b), onZpx_iff.2 fun b => h.onMem (hzpx b),
    onAbs_iff.2 fun w => h.onMem (habs w), onAbsx_iff.2 fun w => h.onMem (habsx w),
    onAbsy_iff.2 fun w => h.onMem (habsy w), onIzx_iff.2 fun b => h.onMem (hizx b),
    onIzy_iff.2 fun b => h.onMem (hizy b)⟩

end

end Sys2Proof.Stating
end

section
/-! PROOFS. Arithmetic and compare (41_arithmetic.md): the sums and differences as exact integers, overflow by the three
sign bits, and what the three steps ADC, SBC and compare leave of a state. -/

namespace Sys2Proof.Machine

open Sys2Proof.Stating

/-! ### Overflow by the sign bits -/

/-- The mask 0x80 of R120 and R121 picks the sign bit. -/
theorem and_signMask_bne_zero (b : Byte) : ((b &&& 0x80) != 0) = b.msb := by
  have hmask : b &&& 0x80 = if b.msb then 0x80 else 0 := by
    rw [BitVec.msb_eq_getLsbD_last]
    exact BitVec.and_twoPow b 7
  rw [hmask]
  cases b.msb <;> rfl

/-- An addition overflows when the result's sign differs from both operands' signs. -/
theorem adcOverflow_eq_msb (a m : Byte) (c : Bool) :
    adcOverflow a m c = ((a.msb ^^ (adcResult a m c).msb) && (m.msb ^^ (adcResult a m c).msb)) := by
  simp only [adcOverflow, and_signMask_bne_zero, BitVec.msb_and, BitVec.msb_xor]

/-- A subtraction overflows when the operands' signs differ and the result's sign is not A's. -/
theorem sbcOverflow_eq_msb (a m : Byte) (c : Bool) :
    sbcOverflow a m c = ((a.msb ^^ m.msb) && (a.msb ^^ (sbcResult a m c).msb)) := by
  simp only [sbcOverflow, and_signMask_bne_zero, BitVec.msb_and, BitVec.msb_xor]

/-! ### SBC against ADC (R121) -/

/-- Adding the complement is subtracting, 256 higher. -/
theorem adcSum_not (a m : Byte) (c : Bool) : (adcSum a (~~~m) c : Int) = sbcDiff a m c + 256 := by
  have hm := m.isLt
  rw [adcSum, sbcDiff, BitVec.toNat_not]
  omega

theorem adcResult_not (a m : Byte) (c : Bool) : adcResult a (~~~m) c = sbcResult a m c := by
  have hwrap : BitVec.ofInt 8 256 = 0#8 := rfl
  rw [adcResult, ← BitVec.ofInt_natCast, adcSum_not, BitVec.ofInt_add, hwrap, BitVec.add_zero, sbcResult]

theorem adcCarry_not (a m : Byte) (c : Bool) : adcCarry a (~~~m) c = sbcCarry a m c := by
  have hsum := adcSum_not a m c
  simp only [adcCarry, sbcCarry, decide_eq_decide]
  omega

theorem adcOverflow_not (a m : Byte) (c : Bool) : adcOverflow a (~~~m) c = sbcOverflow a m c := by
  have hsigns : ∀ a m r : Bool, ((a ^^ r) && (!m ^^ r)) = ((a ^^ m) && (a ^^ r)) := by decide
  rw [adcOverflow_eq_msb, sbcOverflow_eq_msb, adcResult_not, BitVec.msb_not]
  exact hsigns a.msb m.msb (sbcResult a m c).msb

/-- The whole SBC step is the ADC step on the complement. -/
theorem State.addWithCarry_not (s : State) (m : Byte) : s.addWithCarry (~~~m) = s.subtractWithCarry m := by
  simp only [State.addWithCarry, State.subtractWithCarry, adcResult_not, adcCarry_not, adcOverflow_not]

/-- Settles O7: the two steps agree, and both forms move PC by two. -/
theorem sbcIsAdcOfComplement : Obligations.SbcIsAdcOfComplement := by
  unfold Obligations.SbcIsAdcOfComplement
  intro ii s
  exact congrArg (fun t => Host.Outcome.next (t.advance 2)) (s.addWithCarry_not ii).symm

/-! ### Signed overflow of an addition (R120) -/

theorem adcResult_toNat (a m : Byte) (c : Bool) : (adcResult a m c).toNat = adcSum a m c % 256 :=
  BitVec.toNat_ofNat (adcSum a m c) 8

/-- V is set exactly when the signed sum is no signed Byte. -/
theorem adcOverflow_eq_signed (a m : Byte) (c : Bool) :
    adcOverflow a m c =
      decide (a.toInt + m.toInt + carryNat c < -128 ∨ 127 < a.toInt + m.toInt + carryNat c) := by
  have ha := a.isLt
  have hm := m.isLt
  have hc : carryNat c ≤ 1 := by cases c <;> decide
  have hr := adcResult_toNat a m c
  rw [adcSum] at hr
  rw [adcOverflow_eq_msb, BitVec.toInt_eq_msb_cond, BitVec.toInt_eq_msb_cond, Bool.eq_iff_iff]
  simp only [BitVec.msb_eq_decide, Bool.and_eq_true, bne_iff_ne, ne_eq, decide_eq_true_eq, decide_eq_decide]
  omega

/-- Settles O8: the V that ADC writes is the signed overflow. -/
theorem adcOverflowIsSignedOverflow : Obligations.AdcOverflowIsSignedOverflow := by
  unfold Obligations.AdcOverflowIsSignedOverflow
  intro ii s
  exact ⟨_, rfl, (s.addWithCarry_flag ii .v).trans (adcOverflow_eq_signed s.a ii (s.flag .c))⟩

/-! ### The ADC step -/

/-- The ADC step adds, as R120 says. -/
theorem State.addWithCarry_added (s : State) (m : Byte) : Added s m (s.flag .c) (s.addWithCarry m) :=
  ⟨adcResult_toNat .., s.addWithCarry_flag m .c, s.addWithCarry_flag m .v,
    ⟨(s.addWithCarry_flag m .z).trans (beq_eq_decide ..), s.addWithCarry_flag m .n⟩, rfl, rfl, rfl,
    by simp [FlagsKept, State.addWithCarry_flag]⟩

theorem opAdc_onSource : OnSource opAdc fun s m t => Added s m (s.flag .c) t ∧ MemoryKept s t :=
  fun o s => ⟨_, rfl, rfl, s.addWithCarry_added (s.sourceByte o), fun _ => rfl⟩

/-- Settles O5: every form is the ADC step on the Byte its operand gives. -/
theorem adcAddsEveryForm : Obligations.AdcAddsEveryForm := by
  unfold Obligations.AdcAddsEveryForm
  exact opAdc_onSource.onReading8 (fun _ _ => ⟨rfl, rfl, rfl, rfl, rfl⟩) (fun _ _ => ⟨rfl, rfl, rfl⟩)

/-! ### The SBC step -/

theorem sbcResult_toNat (a m : Byte) (c : Bool) : ((sbcResult a m c).toNat : Int) = sbcDiff a m c % 256 := by
  rw [sbcResult, BitVec.toNat_ofInt]
  exact Int.toNat_of_nonneg (Int.emod_nonneg _ (by decide))

/-- The SBC step subtracts, as R121 says. -/
theorem State.subtractWithCarry_subtracted (s : State) (m : Byte) :
    Subtracted s m (s.flag .c) (s.subtractWithCarry m) :=
  ⟨sbcResult_toNat .., s.subtractWithCarry_flag m .c, s.subtractWithCarry_flag m .v,
    ⟨(s.subtractWithCarry_flag m .z).trans (beq_eq_decide ..), s.subtractWithCarry_flag m .n⟩, rfl, rfl, rfl,
    by simp [FlagsKept, State.subtractWithCarry_flag]⟩

theorem opSbc_onSource : OnSource opSbc fun s m t => Subtracted s m (s.flag .c) t ∧ MemoryKept s t :=
  fun o s => ⟨_, rfl, rfl, s.subtractWithCarry_subtracted (s.sourceByte o), fun _ => rfl⟩

/-- Settles O6: every form, 0xEB included, is the SBC step on the Byte its operand gives. -/
theorem sbcSubtractsEveryForm : Obligations.SbcSubtractsEveryForm := by
  unfold Obligations.SbcSubtractsEveryForm
  exact ⟨opSbc_onSource.onReading8 (fun _ _ => ⟨rfl, rfl, rfl, rfl, rfl⟩) (fun _ _ => ⟨rfl, rfl, rfl⟩),
    opSbc_onSource.onImm fun _ _ => rfl⟩

/-! ### The compare step -/

theorem cmpResult_eq_ofNat (r m : Byte) : cmpResult r m = BitVec.ofNat 8 (r.toNat + 256 - m.toNat) := by
  apply BitVec.eq_of_toNat_eq
  rw [cmpResult, BitVec.toNat_sub, BitVec.toNat_ofNat]
  have hm := m.isLt
  omega

/-- The compare step writes C, Z and N, as R122 says. -/
theorem State.compare_compared (s : State) (r m : Byte) : Compared r s m (s.compare r m) := by
  rw [Compared, ← cmpResult_eq_ofNat]
  exact ⟨s.compare_flag r m .c, ⟨(s.compare_flag r m .z).trans (beq_eq_decide ..), s.compare_flag r m .n⟩,
    ⟨rfl, rfl, rfl, rfl⟩, by simp [FlagsKept, State.compare_flag]⟩

theorem opCmp_onSource : OnSource opCmp fun s m t => Compared s.a s m t ∧ MemoryKept s t :=
  fun o s => ⟨_, rfl, rfl, s.compare_compared s.a (s.sourceByte o), fun _ => rfl⟩

theorem opCpx_onSource : OnSource opCpx fun s m t => Compared s.x s m t ∧ MemoryKept s t :=
  fun o s => ⟨_, rfl, rfl, s.compare_compared s.x (s.sourceByte o), fun _ => rfl⟩

theorem opCpy_onSource : OnSource opCpy fun s m t => Compared s.y s m t ∧ MemoryKept s t :=
  fun o s => ⟨_, rfl, rfl, s.compare_compared s.y (s.sourceByte o), fun _ => rfl⟩

/-- Settles O9: every form is the compare step of its register with the Byte its operand gives. -/
theorem comparesWriteOnlyCZN : Obligations.ComparesWriteOnlyCZN := by
  unfold Obligations.ComparesWriteOnlyCZN
  refine ⟨opCmp_onSource.onReading8 (fun _ _ => ⟨rfl, rfl, rfl, rfl, rfl⟩) (fun _ _ => ⟨rfl, rfl, rfl⟩), ?_, ?_⟩
  · exact ⟨opCpx_onSource.onImm fun _ _ => rfl, onZp_iff.2 fun _ => opCpx_onSource.onMem fun _ => rfl,
      onAbs_iff.2 fun _ => opCpx_onSource.onMem fun _ => rfl⟩
  · exact ⟨opCpy_onSource.onImm fun _ _ => rfl, onZp_iff.2 fun _ => opCpy_onSource.onMem fun _ => rfl,
      onAbs_iff.2 fun _ => opCpy_onSource.onMem fun _ => rfl⟩

end Sys2Proof.Machine
end

section
/-! PROOFS. Shift and rotate (42_shift_rotate.md): the four results as numbers, and the one step that ASL, LSR, ROL and
ROR share, on A and on a byte of memory. -/

namespace Sys2Proof.Stating

open Sys2Proof.Machine

/-- The four memory forms, by memory operand. -/
theorem onMemory4_iff {zp zpx : Byte → Instr} {abs absx : Word → Instr} {post : State → Word → State → Prop} :
    OnMemory4 zp zpx abs absx post ↔
      (∀ zz, OnMem (zp zz) (.zp zz) post ∧ OnMem (zpx zz) (.zpx zz) post) ∧
        ∀ hhll, OnMem (abs hhll) (.abs hhll) post ∧ OnMem (absx hhll) (.absx hhll) post := by
  rw [OnMemory4, onZp_iff, onZpx_iff, onAbs_iff, onAbsx_iff, forall_and, forall_and, and_assoc]

end Sys2Proof.Stating

namespace Sys2Proof.Machine

open Sys2Proof.Stating

/-! ### The results as numbers (R130-R133) -/

/-- The old carry is below the bits shifted left, so the two are a sum. -/
theorem rolResult_eq_ofNat (v : Byte) (c : Bool) : rolResult v c = BitVec.ofNat 8 (rol v.toNat (num c)) := by
  have hc : num c < 2 ^ 1 := by cases c <;> decide
  have hsum : rol v.toNat (num c) = v.toNat <<< 1 ||| num c := by
    rw [← Nat.shiftLeft_add_eq_or_of_lt hc, Nat.shiftLeft_eq, rol, mul_comm, pow_one]
  rw [hsum, BitVec.ofNat_or]
  rfl

/-- The old carry is above the bits shifted right, so the two are a sum. -/
theorem rorResult_eq_ofNat (v : Byte) (c : Bool) : rorResult v c = BitVec.ofNat 8 (ror v.toNat (num c)) := by
  have hv : v.toNat / 2 < 2 ^ 7 := by have := v.isLt; omega
  have hsum : ror v.toNat (num c) = v.toNat >>> 1 ||| num c <<< 7 := by
    rw [Nat.or_comm, Nat.shiftRight_one, ← Nat.shiftLeft_add_eq_or_of_lt hv, Nat.shiftLeft_eq, ror]
    ring
  rw [hsum, BitVec.ofNat_or, ← BitVec.toNat_ushiftRight, BitVec.ofNat_toNat, BitVec.setWidth_eq]
  cases c <;> rfl

/-- ASL is ROL with the carry clear, whatever carry the statement names. -/
theorem aslResult_eq_ofNat (v : Byte) (c : Nat) : aslResult v = BitVec.ofNat 8 (asl v.toNat c) :=
  BitVec.or_zero.symm.trans (rolResult_eq_ofNat v false)

/-- LSR is ROR with the carry clear. -/
theorem lsrResult_eq_ofNat (v : Byte) (c : Nat) : lsrResult v = BitVec.ofNat 8 (lsr v.toNat c) :=
  BitVec.or_zero.symm.trans (rorResult_eq_ofNat v false)

/-! ### The shared step -/

/-- C from the bit shifted out, then SetNZ of the result: the flags of a shift. -/
theorem State.shiftFlags_setFlag_setNZ (s : State) (r : Byte) (out : Bool) :
    ShiftFlags s r out ((s.setFlag .c out).setNZ r) := by
  refine ⟨?_, ⟨?_, ?_⟩, ?_⟩
  · exact (State.flag_setNZ_of_ne _ r (by decide) (by decide)).trans (getFlag_setFlag_self s.p .c out)
  · exact (getFlag_setNZ_z _ r).trans (beq_eq_decide ..)
  · exact getFlag_setNZ_n _ r
  · intro f hf
    have hne : ∀ g, g ∉ [Flag.v, .i, .d, .b, .u] → f ≠ g := fun g hg => ne_of_mem_of_not_mem hf hg
    exact s.flag_setFlag_setNZ_of_ne out r (hne .c (by decide)) (hne .z (by decide)) (hne .n (by decide))

/-- The operation writes back the result for the target's Byte and the old carry, writes C, Z and N, and moves PC past
the target. -/
def ShiftsTarget (op : Target → State → Result) (res : Nat → Nat → Nat) (out : Byte → Bool) : Prop :=
  ∀ o s,
    let v := s.targetByte o
    let r := BitVec.ofNat 8 (res v.toNat (num (s.flag .c)))
    op o s = .next ((((s.writeBack r o).setFlag .c (out v)).setNZ r).advance o.length)

theorem opAsl_shiftsTarget : ShiftsTarget opAsl asl bit7 := by
  simp only [ShiftsTarget, ← aslResult_eq_ofNat]
  exact fun _ _ => rfl

theorem opLsr_shiftsTarget : ShiftsTarget opLsr lsr bit0 := by
  simp only [ShiftsTarget, ← lsrResult_eq_ofNat]
  exact fun _ _ => rfl

theorem opRol_shiftsTarget : ShiftsTarget opRol rol bit7 := by
  simp only [ShiftsTarget, ← rolResult_eq_ofNat]
  exact fun _ _ => rfl

theorem opRor_shiftsTarget : ShiftsTarget opRor ror bit0 := by
  simp only [ShiftsTarget, ← rorResult_eq_ofNat]
  exact fun _ _ => rfl

section
variable {op : Target → State → Result} {res : Nat → Nat → Nat} {out : Byte → Bool}

/-- On the accumulator. -/
theorem ShiftsTarget.onImp (h : ShiftsTarget op res out) {i : Instr} (hi : ∀ s, exec i s = op .acc s) :
    OnImp i (ShiftsA res out) :=
  fun s => ⟨_, (hi s).trans (h .acc s), rfl, ⟨rfl, rfl, rfl, rfl⟩, (s.setA _).shiftFlags_setFlag_setNZ _ _, fun _ => rfl⟩

/-- On a byte of memory. -/
theorem ShiftsTarget.onMem (h : ShiftsTarget op res out) {i : Instr} {m : MemOperand}
    (hi : ∀ s, exec i s = op (.mem m) s) : OnMem i m (ShiftsByte res out) :=
  fun s => ⟨_, (hi s).trans (h (.mem m) s), rfl, ⟨s.read_write_self _ _, fun _ ha => s.read_write_of_ne _ ha⟩,
    (s.write _ _).shiftFlags_setFlag_setNZ _ _, rfl, rfl, rfl, rfl⟩

/-- The four memory forms of a shift or rotate: the two of a Byte operand, then the two of a Word. -/
theorem ShiftsTarget.onMemory4 (h : ShiftsTarget op res out) {zp zpx : Byte → Instr} {abs absx : Word → Instr}
    (hbyte : ∀ b s, exec (zp b) s = op (.mem (.zp b)) s ∧ exec (zpx b) s = op (.mem (.zpx b)) s)
    (hword : ∀ w s, exec (abs w) s = op (.mem (.abs w)) s ∧ exec (absx w) s = op (.mem (.absx w)) s) :
    OnMemory4 zp zpx abs absx (ShiftsByte res out) := by
  simp only [forall_and] at hbyte hword
  obtain ⟨hzp, hzpx⟩ := hbyte
  obtain ⟨habs, habsx⟩ := hword
  exact onMemory4_iff.2 ⟨fun b => ⟨h.onMem (hzp b), h.onMem (hzpx b)⟩, fun w => ⟨h.onMem (habs w), h.onMem (habsx w)⟩⟩

end

/-- Settles O10: every form is its shift of the target. -/
theorem aslLsrShiftByOne : Obligations.AslLsrShiftByOne := by
  unfold Obligations.AslLsrShiftByOne
  exact ⟨opAsl_shiftsTarget.onImp fun _ => rfl,
    opAsl_shiftsTarget.onMemory4 (fun _ _ => ⟨rfl, rfl⟩) (fun _ _ => ⟨rfl, rfl⟩),
    opLsr_shiftsTarget.onImp fun _ => rfl,
    opLsr_shiftsTarget.onMemory4 (fun _ _ => ⟨rfl, rfl⟩) (fun _ _ => ⟨rfl, rfl⟩)⟩

/-- Settles O11: every form is its rotate of the target, with the carry of the state before. -/
theorem rolRorRotateThroughCarry : Obligations.RolRorRotateThroughCarry := by
  unfold Obligations.RolRorRotateThroughCarry
  exact ⟨opRol_shiftsTarget.onImp fun _ => rfl,
    opRol_shiftsTarget.onMemory4 (fun _ _ => ⟨rfl, rfl⟩) (fun _ _ => ⟨rfl, rfl⟩),
    opRor_shiftsTarget.onImp fun _ => rfl,
    opRor_shiftsTarget.onMemory4 (fun _ _ => ⟨rfl, rfl⟩) (fun _ _ => ⟨rfl, rfl⟩)⟩

end Sys2Proof.Machine
end

section
/-! PROOFS. Increment and decrement (43_inc_dec.md): one more and one less as numbers modulo 256, and what SetNZ of a
result leaves of the flags, on a byte of memory and on an index register. -/

namespace Sys2Proof.Stating

open Sys2Proof.Machine

/-! ### Operations on the Byte at an effective address -/

/-- The operation completes on every memory operand, moves PC past it, and has the property of the effective address. -/
def OnOperand (op : MemOperand → State → Result) (post : State → Word → State → Prop) : Prop :=
  ∀ m s, ∃ t, op m s = .next t ∧ t.pc = s.pc + BitVec.ofNat 16 m.length ∧ post s (s.ea m) t

section
variable {op : MemOperand → State → Result} {post : State → Word → State → Prop}

theorem OnOperand.onMem (h : OnOperand op post) {i : Instr} {m : MemOperand} (hi : ∀ s, exec i s = op m s) :
    OnMem i m post := by
  intro s
  obtain ⟨t, hop, hpost⟩ := h m s
  exact ⟨t, (hi s).trans hop, hpost⟩

/-- The four memory forms of an operation: the two of a Byte operand, then the two of a Word. -/
theorem OnOperand.onMemory4 (h : OnOperand op post) {zp zpx : Byte → Instr} {abs absx : Word → Instr}
    (hbyte : ∀ b s, exec (zp b) s = op (.zp b) s ∧ exec (zpx b) s = op (.zpx b) s)
    (hword : ∀ w s, exec (abs w) s = op (.abs w) s ∧ exec (absx w) s = op (.absx w) s) :
    OnMemory4 zp zpx abs absx post := by
  simp only [forall_and] at hbyte hword
  obtain ⟨hzp, hzpx⟩ := hbyte
  obtain ⟨habs, habsx⟩ := hword
  exact onMemory4_iff.2 ⟨fun b => ⟨h.onMem (hzp b), h.onMem (hzpx b)⟩, fun w => ⟨h.onMem (habs w), h.onMem (habsx w)⟩⟩

end

end Sys2Proof.Stating

namespace Sys2Proof.Machine

open Sys2Proof.Stating

/-! ### The results as numbers (R140-R145) -/

theorem add_one_eq_ofNat (v : Byte) : v + 1 = BitVec.ofNat 8 (v.toNat + 1) := by
  have hone : (1 : Byte) = 1#8 := rfl
  rw [BitVec.ofNat_add, BitVec.ofNat_toNat, BitVec.setWidth_eq, hone]

/-- Modulo 256, one less is 255 more. -/
theorem sub_one_eq_ofNat (v : Byte) : v - 1 = BitVec.ofNat 8 (v.toNat + 255) := by
  have hneg : -(1 : Byte) = 255#8 := rfl
  rw [BitVec.ofNat_add, BitVec.ofNat_toNat, BitVec.setWidth_eq, BitVec.sub_eq_add_neg, hneg]

/-! ### SetNZ of a result (R13) -/

theorem State.nz_setNZ (s : State) (r : Byte) : NZ r (s.setNZ r) :=
  ⟨(getFlag_setNZ_z s.p r).trans (beq_eq_decide ..), getFlag_setNZ_n s.p r⟩

theorem State.flagsKept_setNZ (s : State) (r : Byte) {fs : List Flag} (hz : .z ∉ fs) (hn : .n ∉ fs) :
    FlagsKept fs s (s.setNZ r) :=
  fun _ hf => s.flag_setNZ_of_ne r (ne_of_mem_of_not_mem hf hz) (ne_of_mem_of_not_mem hf hn)

/-! ### A byte of memory -/

/-- A result written back with its Z and N changes the byte as R140 and R141 say. -/
theorem State.changesByte_write_setNZ_advance (s : State) (ea : Word) (n : Nat) {f : Nat → Nat} {r : Byte}
    (hr : r = BitVec.ofNat 8 (f (s.read ea).toNat)) : ChangesByte f s ea (((s.write ea r).setNZ r).advance n) := by
  subst hr
  exact ⟨⟨s.read_write_self ea _, fun _ ha => s.read_write_of_ne _ ha⟩, (s.write ea _).nz_setNZ _,
    (s.write ea _).flagsKept_setNZ _ (by decide) (by decide), rfl, rfl, rfl, rfl⟩

theorem opInc_onOperand : OnOperand opInc (ChangesByte fun v => v + 1) :=
  fun m s => ⟨_, rfl, rfl, s.changesByte_write_setNZ_advance (s.ea m) m.length (add_one_eq_ofNat _)⟩

theorem opDec_onOperand : OnOperand opDec (ChangesByte fun v => v + 255) :=
  fun m s => ⟨_, rfl, rfl, s.changesByte_write_setNZ_advance (s.ea m) m.length (sub_one_eq_ofNat _)⟩

/-- Settles O12: every form is the increment or decrement of the byte at its operand's effective address. -/
theorem incDecChangeOneByte : Obligations.IncDecChangeOneByte := by
  unfold Obligations.IncDecChangeOneByte
  exact ⟨opInc_onOperand.onMemory4 (fun _ _ => ⟨rfl, rfl⟩) (fun _ _ => ⟨rfl, rfl⟩),
    opDec_onOperand.onMemory4 (fun _ _ => ⟨rfl, rfl⟩) (fun _ _ => ⟨rfl, rfl⟩)⟩

/-! ### An index register -/

theorem State.xGets_setX_setNZ (s : State) (r : Byte) : XGets s r ((s.setX r).setNZ r) :=
  ⟨⟨rfl, rfl, rfl, rfl⟩, (s.setX r).nz_setNZ r, (s.setX r).flagsKept_setNZ r (by decide) (by decide), fun _ => rfl⟩

theorem State.yGets_setY_setNZ (s : State) (r : Byte) : YGets s r ((s.setY r).setNZ r) :=
  ⟨⟨rfl, rfl, rfl, rfl⟩, (s.setY r).nz_setNZ r, (s.setY r).flagsKept_setNZ r (by decide) (by decide), fun _ => rfl⟩

/-- An instruction of one byte that gives X a value does that and nothing else. -/
theorem onImp_of_opWriteX {i : Instr} {v : State → Byte} (hi : ∀ s, exec i s = opWriteX (v s) s) :
    OnImp i fun s t => XGets s (v s) t :=
  fun s => ⟨_, hi s, rfl, s.xGets_setX_setNZ (v s)⟩

/-- An instruction of one byte that gives Y a value does that and nothing else. -/
theorem onImp_of_opWriteY {i : Instr} {v : State → Byte} (hi : ∀ s, exec i s = opWriteY (v s) s) :
    OnImp i fun s t => YGets s (v s) t :=
  fun s => ⟨_, hi s, rfl, s.yGets_setY_setNZ (v s)⟩

/-- Settles O13: each instruction gives its register one more or one less. -/
theorem indexRegistersCountModulo256 : Obligations.IndexRegistersCountModulo256 := by
  unfold Obligations.IndexRegistersCountModulo256
  simp only [← add_one_eq_ofNat, ← sub_one_eq_ofNat]
  exact ⟨onImp_of_opWriteX fun _ => rfl, onImp_of_opWriteY fun _ => rfl,
    onImp_of_opWriteX fun _ => rfl, onImp_of_opWriteY fun _ => rfl⟩

end Sys2Proof.Machine
end

section
/-! PROOFS. Conditional branches (44_branches.md): the target as a signed displacement modulo 65536, and the two senses in
which a branch tests its flag. -/

namespace Sys2Proof.Machine

open Sys2Proof.Stating

/-- The displacement is a signed number, added modulo 65536 (R103). -/
theorem State.branchTarget_eq_ofInt (s : State) (dd : Byte) :
    s.branchTarget dd = BitVec.ofInt 16 ((s.pc.toNat : Int) + 2 + dd.toInt) := by
  have hpc : BitVec.ofInt 16 (s.pc.toNat : Int) = s.pc := by
    rw [BitVec.ofInt_natCast, BitVec.ofNat_toNat, BitVec.setWidth_eq]
  rw [BitVec.ofInt_add, BitVec.ofInt_add, hpc]
  rfl

/-- The common branch gives PC one of its two values and changes nothing else (R150). -/
theorem opBranch_eq (c : Bool) (dd : Byte) (s : State) :
    opBranch c dd s =
      .next { s with pc := if c then BitVec.ofInt 16 ((s.pc.toNat : Int) + 2 + dd.toInt) else s.pc + 2 } := by
  rw [← s.branchTarget_eq_ofInt]
  cases c
  case false => rfl
  case true => rfl

section
variable {i : Byte → Instr} {f : Flag}

/-- A branch on its flag is taken when the flag is set. -/
theorem branchesWhen_true_of_opBranch (hi : ∀ dd s, exec (i dd) s = opBranch (s.flag f) dd s) :
    BranchesWhen i f true :=
  fun dd s => (hi dd s).trans (opBranch_eq ..)

/-- A branch on the negation of its flag is taken when the flag is clear. -/
theorem branchesWhen_false_of_opBranch (hi : ∀ dd s, exec (i dd) s = opBranch (!s.flag f) dd s) :
    BranchesWhen i f false := by
  intro dd s
  rw [hi, opBranch_eq]
  simp only [Bool.not_eq_true']

end

/-- Settles O14: every branch is the common branch on its flag or on the flag's negation. -/
theorem branchesRedirectOnlyPC : Obligations.BranchesRedirectOnlyPC := by
  unfold Obligations.BranchesRedirectOnlyPC
  exact ⟨branchesWhen_false_of_opBranch fun _ _ => rfl, branchesWhen_true_of_opBranch fun _ _ => rfl,
    branchesWhen_true_of_opBranch fun _ _ => rfl, branchesWhen_false_of_opBranch fun _ _ => rfl,
    branchesWhen_true_of_opBranch fun _ _ => rfl, branchesWhen_false_of_opBranch fun _ _ => rfl,
    branchesWhen_false_of_opBranch fun _ _ => rfl, branchesWhen_true_of_opBranch fun _ _ => rfl⟩

end Sys2Proof.Machine
end

section
/-! PROOFS. Stack (45_stack.md): the stack byte an SP designates, a pushed Word read back for every SP, and the four
instructions that push or pull one Byte. -/

namespace Sys2Proof.Machine

open Sys2Proof.Stating

/-! ### The stack byte, and the two Bytes of a Word as numbers -/

/-- The page base and SP, added as numbers or as Words, give one address (10_state.md R25). -/
theorem stackByte_eq_stackAddr (sp : Byte) : stackByte sp = stackAddr sp :=
  (addr_add_zext16 256 sp).symm

theorem hiByte_eq_ofNat (w : Word) : hiByte w = BitVec.ofNat 8 (w.toNat / 256) := by
  rw [hiByte, BitVec.extractLsb', Nat.shiftRight_eq_div_pow]

theorem loByte_eq_ofNat (w : Word) : loByte w = BitVec.ofNat 8 w.toNat := rfl

/-! ### Push and pop of a Word (R162) -/

@[simp] theorem State.push16_sp (s : State) (w : Word) : (s.push16 w).sp = s.sp - 1 - 1 := rfl
@[simp] theorem State.drop16_sp (s : State) : s.drop16.sp = s.sp + 1 + 1 := rfl

/-- The two bytes a pushed Word takes, the low one written last. -/
theorem State.read_push16 (s : State) (w u : Word) :
    (s.push16 w).read u =
      if u = stackAddr (s.sp - 1) then loByte w else if u = stackAddr s.sp then hiByte w else s.read u := by
  simp only [State.push16, State.read_push, State.push_sp]

theorem stackAddr_ne_stackAddr_sub_one (sp : Byte) : stackAddr sp ≠ stackAddr (sp - 1) := by
  intro h
  have hsp : sp = sp - 1 := stackAddr_injective h
  bv_omega

/-- Below a pushed Byte the stack is as it was: the push wrote where SP was, and the pop after it reads one above. -/
theorem State.top_drop_push (s : State) (v : Byte) : (s.push v).drop.top = s.top := by
  have hne : stackAddr (s.sp + 1) ≠ stackAddr s.sp := by
    simpa using stackAddr_ne_stackAddr_sub_one (s.sp + 1)
  rw [State.top, State.read_drop, State.drop_sp, State.push_sp, BitVec.sub_add_cancel, State.read_push, if_neg hne,
    State.top]

/-- The low byte is the one on top, the high byte the one below it. -/
theorem State.top16_push16 (s : State) (w : Word) : (s.push16 w).top16 = w := by
  rw [State.top16, State.push16, State.top_push, State.top_drop_push, State.top_push, joinBytes_hi_lo]

/-- Settles O17: the low byte's address is not the high byte's, whatever SP, so both stand to be read back. -/
theorem wordPushPopRoundTrip : Obligations.WordPushPopRoundTrip := by
  unfold Obligations.WordPushPopRoundTrip
  intro s w
  simp only [stackByte_eq_stackAddr, ← hiByte_eq_ofNat, ← loByte_eq_ofNat]
  refine ⟨?high, ?low, ?sp, s.top16_push16 w, ?restored⟩
  case high => rw [State.read_push16, if_neg (stackAddr_ne_stackAddr_sub_one s.sp), if_pos rfl]
  case low => rw [State.read_push16, if_pos rfl]
  case sp => rw [State.push16_sp]; bv_omega
  case restored => simp

/-! ### Pushing one Byte (R163, R164) -/

/-- A push writes one byte, at the address as the spec writes it (R160). -/
theorem State.stored_push (s : State) (v : Byte) : Stored s (s.push v) (stackByte s.sp) v := by
  rw [stackByte_eq_stackAddr]
  exact ⟨s.read_write_self _ v, fun _ ha => s.read_write_of_ne v ha⟩

/-- An instruction of one byte that pushes a value writes that one byte and moves SP and PC. -/
theorem onImp_of_opPush {i : Instr} {v : State → Byte} (hi : ∀ s, exec i s = opPush (v s) s) :
    OnImp i fun s t => Stored s t (stackByte s.sp) (v s) ∧ Regs t s.a s.x s.y (s.sp - 1) ∧ t.p = s.p :=
  fun s => ⟨_, hi s, rfl, s.stored_push (v s), ⟨rfl, rfl, rfl, rfl⟩, rfl⟩

/-- Settles O15: both instructions are the common push, of A and of P with bits 4 and 5 set. -/
theorem phaPhpPushOneByte : Obligations.PhaPhpPushOneByte := by
  unfold Obligations.PhaPhpPushOneByte
  exact ⟨onImp_of_opPush fun _ => rfl, onImp_of_opPush fun _ => rfl⟩

/-! ### Pulling one Byte (R165, R166) -/

/-- The byte a pop returns, at the address as the spec writes it (R161). -/
theorem State.read_stackByte_add_one (s : State) : s.read (stackByte (s.sp + 1)) = s.top := by
  rw [stackByte_eq_stackAddr, State.top]

/-- PLP and RTI take every flag but B and U from the pulled byte. -/
theorem getFlag_pulledStatus_of_ne (p v : Byte) {f : Flag} (hb : f ≠ .b) (hu : f ≠ .u) :
    getFlag (pulledStatus p v) f = getFlag v f := by
  rw [getFlag_pulledStatus, if_neg (not_or.2 ⟨hb, hu⟩)]

/-- Settles O16: PLA is a pop and SetNZ; PLP is a pop and the mask that keeps B and U. -/
theorem plaPlpPullOneByte : Obligations.PlaPlpPullOneByte := by
  unfold Obligations.PlaPlpPullOneByte
  simp only [State.read_stackByte_add_one]
  refine ⟨fun s => ?pla, fun s => ?plp⟩
  case pla =>
    exact ⟨_, rfl, rfl, ⟨rfl, rfl, rfl, rfl⟩, (s.drop.setA s.top).nz_setNZ s.top,
      (s.drop.setA s.top).flagsKept_setNZ s.top (by decide) (by decide), fun _ => rfl⟩
  case plp =>
    have htaken : ∀ f ∈ [Flag.n, .v, .d, .i, .z, .c], getFlag (pulledStatus s.p s.top) f = getFlag s.top f :=
      fun f hf => getFlag_pulledStatus_of_ne s.p s.top (ne_of_mem_of_not_mem hf (by decide))
        (ne_of_mem_of_not_mem hf (by decide))
    have hkept : ∀ f ∈ [Flag.b, .u], getFlag (pulledStatus s.p s.top) f = getFlag s.p f :=
      fun f hf => getFlag_pulledStatus_of_break_or_unused s.p s.top (by simpa using hf)
    exact ⟨_, rfl, rfl, ⟨rfl, rfl, rfl, rfl⟩, htaken, hkept, fun _ => rfl⟩

end Sys2Proof.Machine
end

section
/-! PROOFS. Jumps, calls, the software interrupt (46_jump_call.md): the Word of a page pointer and of a pop as numbers,
the frame that BRK pushes, and the two returns that undo JSR and BRK. -/

namespace Sys2Proof.Machine

open Sys2Proof.Stating

/-! ### JMP (R170, R171) -/

theorem and_joinBytes (a b c d : Byte) : joinBytes a b &&& joinBytes c d = joinBytes (a &&& c) (b &&& d) :=
  BitVec.and_append

theorem or_joinBytes (a b c d : Byte) : joinBytes a b ||| joinBytes c d = joinBytes (a ||| c) (b ||| d) :=
  BitVec.or_append

/-- The two masks of R99 take the high byte of one Word and the low byte of another. -/
theorem or_pageMasks_eq_joinBytes (v w : Word) :
    (v &&& 0xFF00) ||| (w &&& 0x00FF) = joinBytes (hiByte v) (loByte w) := by
  have hpage : (0xFF00 : Word) = joinBytes (BitVec.allOnes 8) 0#8 := rfl
  have hoffset : (0x00FF : Word) = joinBytes 0#8 (BitVec.allOnes 8) := rfl
  conv_lhs => rw [← joinBytes_hi_lo v, ← joinBytes_hi_lo w]
  simp only [hpage, hoffset, and_joinBytes, or_joinBytes, BitVec.and_allOnes, BitVec.and_zero, BitVec.or_zero,
    BitVec.zero_or]

/-- The second byte of a pointer is read at the next address inside its page (R99). -/
theorem pagePointerNext_eq_addr (ptr : Word) :
    (ptr &&& 0xFF00) ||| ((ptr + 1) &&& 0x00FF) = addr (ptr.toNat / 256 * 256 + (ptr.toNat + 1) % 256) := by
  have hhi : (hiByte ptr).toNat = ptr.toNat / 256 := by
    rw [hiByte_eq_ofNat, BitVec.toNat_ofNat]
    have := ptr.isLt
    omega
  have hlo : (loByte (ptr + 1)).toNat = (ptr.toNat + 1) % 256 := by
    rw [loByte_eq_ofNat, BitVec.toNat_ofNat, BitVec.toNat_add, Nat.mod_mod_of_dvd _ (by decide)]
    rfl
  rw [or_pageMasks_eq_joinBytes, joinBytes_eq_addr, hhi, hlo]

theorem joinBytes_toNat (hi lo : Byte) : (joinBytes hi lo).toNat = hi.toNat * 256 + lo.toNat := by
  rw [joinBytes_eq_addr, addr, BitVec.toNat_ofNat]
  have hhi := hi.isLt
  have hlo := lo.isLt
  omega

/-- Settles O18: both forms write PC alone, the indirect one the Word of its page pointer. -/
theorem jmpSetsOnlyPC : Obligations.JmpSetsOnlyPC := by
  unfold Obligations.JmpSetsOnlyPC
  refine ⟨fun _ _ => rfl, fun hhll s => ⟨_, rfl, rfl, ?_⟩⟩
  rw [← pagePointerNext_eq_addr]
  exact joinBytes_toNat ..

/-! ### Pushing and popping a Word: the registers, the two bytes, and a Byte pushed below -/

@[simp] theorem State.push16_a (s : State) (w : Word) : (s.push16 w).a = s.a := by simp [State.push16]
@[simp] theorem State.push16_x (s : State) (w : Word) : (s.push16 w).x = s.x := by simp [State.push16]
@[simp] theorem State.push16_y (s : State) (w : Word) : (s.push16 w).y = s.y := by simp [State.push16]
@[simp] theorem State.push16_p (s : State) (w : Word) : (s.push16 w).p = s.p := by simp [State.push16]

@[simp] theorem State.drop16_a (s : State) : s.drop16.a = s.a := by simp [State.drop16]
@[simp] theorem State.drop16_x (s : State) : s.drop16.x = s.x := by simp [State.drop16]
@[simp] theorem State.drop16_y (s : State) : s.drop16.y = s.y := by simp [State.drop16]
@[simp] theorem State.drop16_p (s : State) : s.drop16.p = s.p := by simp [State.drop16]
@[simp] theorem State.drop16_mem (s : State) : s.drop16.mem = s.mem := by simp [State.drop16]

/-- The two bytes a popped Word is made of, at the addresses as the spec writes them (R162). -/
theorem State.top16_eq_addr (s : State) :
    s.top16 = addr ((s.read (stackByte (s.sp + 2))).toNat * 256 + (s.read (stackByte (s.sp + 1))).toNat) := by
  have hsp : s.sp + 1 + 1 = s.sp + 2 := BitVec.add_assoc ..
  rw [State.top16, joinBytes_eq_addr, State.top, State.top, State.drop_sp, State.read_drop, hsp,
    stackByte_eq_stackAddr, stackByte_eq_stackAddr]

/-- A popped Word is a function of SP and memory alone. -/
theorem State.top16_congr {s t : State} (hsp : t.sp = s.sp) (hmem : t.mem = s.mem) : t.top16 = s.top16 := by
  simp only [State.top16, State.top, State.drop_sp, State.read_eq, State.drop_mem, hsp, hmem]

/-- A push and then a pop leave SP as it was and one byte of memory written. -/
theorem State.drop_push (s : State) (v : Byte) : (s.push v).drop = s.write (stackAddr s.sp) v := by
  rw [State.drop, State.push_sp, BitVec.sub_add_cancel]
  rfl

/-- The Word on top of the stack is still there below a pushed Byte. -/
theorem State.top16_drop_push (s : State) (v : Byte) : (s.push v).drop.top16 = s.top16 := by
  have hhigh : stackAddr (s.sp + 1 + 1) ≠ stackAddr s.sp := mt stackAddr_injective (by bv_omega)
  have hsecond : (s.push v).drop.drop.top = s.drop.top := by
    rw [State.drop_push]
    exact s.read_write_of_ne v hhigh
  rw [State.top16, hsecond, State.top_drop_push, State.top16]

/-- A pushed Word touches its two stack bytes only. -/
theorem State.read_push16_of_ne (s : State) (w : Word) {u : Word} (hhigh : u ≠ stackAddr s.sp)
    (hlow : u ≠ stackAddr (s.sp - 1)) : (s.push16 w).read u = s.read u := by
  rw [State.read_push16, if_neg hlow, if_neg hhigh]

/-! ### JSR and RTS (R172, R173) -/

/-- Settles O19: JSR is a push of a Word and a jump. -/
theorem jsrPushesReturnAddress : Obligations.JsrPushesReturnAddress := by
  unfold Obligations.JsrPushesReturnAddress
  intro hhll s
  obtain ⟨hhigh, hlow, hsp, -, -⟩ := wordPushPopRoundTrip s (s.pc + 2)
  have hframe : ∀ a : Word, a ≠ stackByte s.sp → a ≠ stackByte (s.sp - 1) →
      (s.push16 (s.pc + 2)).read a = s.read a := by
    simp only [stackByte_eq_stackAddr]
    exact fun _ => s.read_push16_of_ne _
  refine ⟨_, rfl, rfl, hhigh, hlow, hframe, ?regs, ?status⟩
  case regs => exact ⟨by simp, by simp, by simp, hsp⟩
  case status => simp

/-- Settles O20: RTS is a pop of a Word and a jump to the next address. -/
theorem rtsReturnsPastPoppedWord : Obligations.RtsReturnsPastPoppedWord := by
  unfold Obligations.RtsReturnsPastPoppedWord
  intro s
  have hpc : s.top16 + 1 =
      addr ((s.read (stackByte (s.sp + 2))).toNat * 256 + (s.read (stackByte (s.sp + 1))).toNat + 1) := by
    rw [s.top16_eq_addr, addr, addr, BitVec.ofNat_add _ 1]
    rfl
  have hsp : s.drop16.sp = s.sp + 2 := BitVec.add_assoc ..
  refine ⟨_, rfl, hpc, ?regs, ?status, ?memory⟩
  case regs => exact ⟨s.drop16_a, s.drop16_x, s.drop16_y, hsp⟩
  case status => exact s.drop16_p
  case memory => simp [MemoryKept, State.read_eq]

/-- Settles O21: the popped Word is the pushed one, and the pop restores SP. -/
theorem rtsAfterJsrResumes : Obligations.RtsAfterJsrResumes := by
  unfold Obligations.RtsAfterJsrResumes
  intro hhll s
  have hpc : (s.push16 (s.pc + 2)).top16 + 1 = s.pc + 3 := by
    rw [State.top16_push16]
    exact BitVec.add_assoc ..
  refine ⟨_, rfl, _, rfl, hpc, ?regs, ?status⟩
  case regs => simp [Regs]
  case status => simp

/-! ### BRK (R175) -/

/-- The interrupt's frame is a pushed Word and the status below it. -/
theorem State.enterInterrupt_mem_eq_push (s : State) (w : Word) :
    (s.enterInterrupt w).mem = ((s.push16 w).push (pushedStatus s.p)).mem := by
  simp [State.push16]

theorem State.read_enterInterrupt (s : State) (w u : Word) :
    (s.enterInterrupt w).read u = if u = stackAddr (s.sp - 1 - 1) then pushedStatus s.p else (s.push16 w).read u := by
  rw [State.read_eq, State.enterInterrupt_mem_eq_push, ← State.read_eq, State.read_push, State.push16_sp]

/-- Entering the interrupt touches the three bytes of its frame only. -/
theorem State.read_enterInterrupt_of_ne (s : State) (w : Word) {u : Word} (hhigh : u ≠ stackAddr s.sp)
    (hlow : u ≠ stackAddr (s.sp - 1)) (hstatus : u ≠ stackAddr (s.sp - 1 - 1)) :
    (s.enterInterrupt w).read u = s.read u := by
  rw [State.read_enterInterrupt, if_neg hstatus, s.read_push16_of_ne w hhigh hlow]

/-- The stack page ends below every address from 0x0200 on. -/
theorem ne_stackAddr_of_le {u : Word} (h : 0x0200 ≤ u) (sp : Byte) : u ≠ stackAddr sp := by
  simp only [stackAddr, Config.stackPage, zext16]
  bv_omega

/-- The frame does not reach the vector, so PC is the Word the vector held before. -/
theorem State.enterInterrupt_pc (s : State) (w : Word) :
    (s.enterInterrupt w).pc = addr ((s.read 0xFFFF).toNat * 256 + (s.read 0xFFFE).toNat) := by
  have hkept : ∀ u : Word, 0x0200 ≤ u → (s.enterInterrupt w).read u = s.read u := fun u hu =>
    s.read_enterInterrupt_of_ne w (ne_stackAddr_of_le hu _) (ne_stackAddr_of_le hu _) (ne_stackAddr_of_le hu _)
  rw [← joinBytes_eq_addr, ← hkept 0xFFFF (by decide), ← hkept 0xFFFE (by decide)]
  rfl

/-- Settles O22: the three frame addresses differ for every SP, and none of them is the vector's. -/
theorem brkEntersHandler : Obligations.BrkEntersHandler := by
  unfold Obligations.BrkEntersHandler
  intro ss s
  obtain ⟨hhigh, hlow, -, -, -⟩ := wordPushPopRoundTrip s (s.pc + 2)
  have htwo : s.sp - 2 = s.sp - 1 - 1 := by bv_omega
  have hthree : s.sp - 1 - 1 - 1 = s.sp - 3 := by bv_omega
  have hhighNe : stackAddr s.sp ≠ stackAddr (s.sp - 1 - 1) := mt stackAddr_injective (by bv_omega)
  have hlowNe : stackAddr (s.sp - 1) ≠ stackAddr (s.sp - 1 - 1) := stackAddr_ne_stackAddr_sub_one (s.sp - 1)
  simp only [stackByte_eq_stackAddr, htwo] at hhigh hlow ⊢
  refine ⟨_, rfl, ?high, ?low, ?status, ?frame, ?regs, ?interrupt, ?flags, s.enterInterrupt_pc _⟩
  case high => rw [State.read_enterInterrupt, if_neg hhighNe, hhigh]
  case low => rw [State.read_enterInterrupt, if_neg hlowNe, hlow]
  case status => rw [State.read_enterInterrupt, if_pos rfl, pushedStatus]
  case frame => exact fun a => s.read_enterInterrupt_of_ne _
  case regs => exact ⟨s.enterInterrupt_a _, s.enterInterrupt_x _, s.enterInterrupt_y _, hthree⟩
  case interrupt => rw [State.flag_eq, State.enterInterrupt_p, getFlag_setFlag_self]
  case flags =>
    intro f hf
    rw [State.flag_eq, State.enterInterrupt_p, getFlag_setFlag_of_ne s.p true hf, State.flag_eq]

/-! ### RTI (R176) -/

/-- RTI pops the status, then PC as a Word. -/
theorem State.returnFromInterrupt_pc_eq_top16 (s : State) : s.returnFromInterrupt.pc = s.drop.top16 := rfl

/-- Settles O23: RTI leaves the P that PLP leaves, and pops a Word above it. -/
theorem rtiRestoresStatusAndPC : Obligations.RtiRestoresStatusAndPC := by
  unfold Obligations.RtiRestoresStatusAndPC
  intro s
  obtain ⟨-, hplp⟩ := plaPlpPullOneByte
  obtain ⟨_, ⟨⟩, -, -, htaken, hkept, -⟩ := hplp s
  have htwo : s.drop.sp + 1 = s.sp + 2 := BitVec.add_assoc ..
  have hthree : s.drop.sp + 2 = s.sp + 3 := BitVec.add_assoc ..
  have hpc := s.drop.top16_eq_addr
  rw [htwo, hthree, ← State.returnFromInterrupt_pc_eq_top16] at hpc
  have hsp : s.returnFromInterrupt.sp = s.sp + 3 := by rw [State.returnFromInterrupt_sp]; bv_omega
  refine ⟨_, rfl, htaken, hkept, hpc, ?regs, ?memory⟩
  case regs => exact ⟨s.returnFromInterrupt_a, s.returnFromInterrupt_x, s.returnFromInterrupt_y, hsp⟩
  case memory => simp [MemoryKept, State.read_eq]

/-- What BRK pushed of P brings P back: B and U are still in the handler's P, and every other flag is as pushed. -/
theorem pulledStatus_setFlag_i_pushedStatus (p : Byte) : pulledStatus (setFlag p .i true) (pushedStatus p) = p := by
  refine eq_of_getFlag_eq fun f => ?_
  rw [getFlag_pulledStatus]
  split
  · next h => exact getFlag_setFlag_of_ne p true (by rintro rfl; simp at h)
  · next h => rw [getFlag_pushedStatus, decide_eq_false h, Bool.or_false]

/-- The status is on top of the interrupt's frame. -/
theorem State.top_enterInterrupt (s : State) (w : Word) : (s.enterInterrupt w).top = pushedStatus s.p := by
  rw [State.top, State.enterInterrupt_sp, BitVec.sub_add_cancel, State.read_enterInterrupt, if_pos rfl]

/-- The return address is under the status. -/
theorem State.top16_drop_enterInterrupt (s : State) (w : Word) : (s.enterInterrupt w).drop.top16 = w := by
  have hframe : (s.enterInterrupt w).drop.top16 = ((s.push16 w).push (pushedStatus s.p)).drop.top16 :=
    State.top16_congr (by simp) (s.enterInterrupt_mem_eq_push w)
  rw [hframe, State.top16_drop_push, State.top16_push16]

/-- Settles O24: RTI pops what BRK pushed, in the opposite order. -/
theorem rtiAfterBrkResumes : Obligations.RtiAfterBrkResumes := by
  unfold Obligations.RtiAfterBrkResumes
  intro ss s
  have hp : (s.enterInterrupt (s.pc + 2)).returnFromInterrupt.p = s.p := by
    rw [State.returnFromInterrupt_p, ← State.top, State.top_enterInterrupt, State.enterInterrupt_p,
      pulledStatus_setFlag_i_pushedStatus]
  have hpc : (s.enterInterrupt (s.pc + 2)).returnFromInterrupt.pc = s.pc + 2 := by
    rw [State.returnFromInterrupt_pc_eq_top16, State.top16_drop_enterInterrupt]
  refine ⟨_, rfl, _, rfl, hpc, hp, ?_⟩
  simp [Regs]

end Sys2Proof.Machine
end

section
/-! PROOFS. Loads, stores and transfers (47_load_store_transfer.md): a load or transfer gives one register a value and
sets Z and N of it, a store writes one byte. -/

namespace Sys2Proof.Stating

open Sys2Proof.Machine

theorem onZpy_iff {i : Byte → Instr} {post : State → Word → State → Prop} :
    OnZpy i post ↔ ∀ zz, OnMem (i zz) (.zpy zz) post := by
  simp only [OnZpy, OnMem, State.ea, zext16_add]
  rfl

/-- The seven memory forms of an operation: those of `OnMemory4`, then `absy` and the two indirect ones. -/
theorem OnOperand.onMemory7 {op : MemOperand → State → Result} {post : State → Word → State → Prop}
    (h : OnOperand op post) {zp zpx izx izy : Byte → Instr} {abs absx absy : Word → Instr}
    (hbyte : ∀ b s, exec (zp b) s = op (.zp b) s ∧ exec (zpx b) s = op (.zpx b) s)
    (hword : ∀ w s, exec (abs w) s = op (.abs w) s ∧ exec (absx w) s = op (.absx w) s)
    (habsy : ∀ w s, exec (absy w) s = op (.absy w) s) (hizx : ∀ b s, exec (izx b) s = op (.izx b) s)
    (hizy : ∀ b s, exec (izy b) s = op (.izy b) s) :
    OnMemory7 zp zpx abs absx absy izx izy post :=
  ⟨h.onMemory4 hbyte hword, onAbsy_iff.2 fun w => h.onMem (habsy w), onIzx_iff.2 fun b => h.onMem (hizx b),
    onIzy_iff.2 fun b => h.onMem (hizy b)⟩

end Sys2Proof.Stating

namespace Sys2Proof.Machine

open Sys2Proof.Stating

/-! ### Loads (R180-R182) -/

theorem State.aGets_setA_setNZ (s : State) (r : Byte) : AGets s r ((s.setA r).setNZ r) :=
  ⟨⟨rfl, rfl, rfl, rfl⟩, (s.setA r).nz_setNZ r, (s.setA r).flagsKept_setNZ r (by decide) (by decide), fun _ => rfl⟩

theorem opLda_onSource : OnSource opLda AGets :=
  fun o s => ⟨_, rfl, rfl, s.aGets_setA_setNZ (s.sourceByte o)⟩

theorem opLdx_onSource : OnSource opLdx XGets :=
  fun o s => ⟨_, rfl, rfl, s.xGets_setX_setNZ (s.sourceByte o)⟩

theorem opLdy_onSource : OnSource opLdy YGets :=
  fun o s => ⟨_, rfl, rfl, s.yGets_setY_setNZ (s.sourceByte o)⟩

/-- Settles O1: every form gives A the Byte its operand gives. -/
theorem ldaLoadsEveryForm : Obligations.LdaLoadsEveryForm := by
  unfold Obligations.LdaLoadsEveryForm
  exact opLda_onSource.onReading8 (fun _ _ => ⟨rfl, rfl, rfl, rfl, rfl⟩) (fun _ _ => ⟨rfl, rfl, rfl⟩)

/-- Settles O2: every form gives its index register the Byte its operand gives. -/
theorem ldxLdyLoadEveryForm : Obligations.LdxLdyLoadEveryForm := by
  unfold Obligations.LdxLdyLoadEveryForm
  refine ⟨?ldx, ?ldy⟩
  case ldx =>
    exact ⟨opLdx_onSource.onImm fun _ _ => rfl, onZp_iff.2 fun _ => opLdx_onSource.onMem fun _ => rfl,
      onZpy_iff.2 fun _ => opLdx_onSource.onMem fun _ => rfl, onAbs_iff.2 fun _ => opLdx_onSource.onMem fun _ => rfl,
      onAbsy_iff.2 fun _ => opLdx_onSource.onMem fun _ => rfl⟩
  case ldy =>
    exact ⟨opLdy_onSource.onImm fun _ _ => rfl, onZp_iff.2 fun _ => opLdy_onSource.onMem fun _ => rfl,
      onZpx_iff.2 fun _ => opLdy_onSource.onMem fun _ => rfl, onAbs_iff.2 fun _ => opLdy_onSource.onMem fun _ => rfl,
      onAbsx_iff.2 fun _ => opLdy_onSource.onMem fun _ => rfl⟩

/-! ### Stores (R183-R185) -/

theorem State.storesByte_write_advance (v : State → Byte) (s : State) (ea : Word) (n : Nat) :
    StoresByte v s ea ((s.write ea (v s)).advance n) :=
  ⟨⟨s.read_write_self ea _, fun _ ha => s.read_write_of_ne _ ha⟩, ⟨rfl, rfl, rfl, rfl⟩, rfl⟩

/-- A store of the value the state gives writes that byte at the operand's effective address. -/
theorem opStore_onOperand (v : State → Byte) : OnOperand (fun m s => opStore (v s) m s) (StoresByte v) :=
  fun m s => ⟨_, rfl, rfl, State.storesByte_write_advance v s (s.ea m) m.length⟩

/-- Settles O3: every form stores its register at its operand's effective address. -/
theorem storesWriteExactlyOneByte : Obligations.StoresWriteExactlyOneByte := by
  unfold Obligations.StoresWriteExactlyOneByte
  have hsta := opStore_onOperand State.a
  have hstx := opStore_onOperand State.x
  have hsty := opStore_onOperand State.y
  refine ⟨?sta, ?stx, ?sty⟩
  case sta =>
    exact hsta.onMemory7 (fun _ _ => ⟨rfl, rfl⟩) (fun _ _ => ⟨rfl, rfl⟩) (fun _ _ => rfl) (fun _ _ => rfl)
      (fun _ _ => rfl)
  case stx =>
    exact ⟨onZp_iff.2 fun _ => hstx.onMem fun _ => rfl, onZpy_iff.2 fun _ => hstx.onMem fun _ => rfl,
      onAbs_iff.2 fun _ => hstx.onMem fun _ => rfl⟩
  case sty =>
    exact ⟨onZp_iff.2 fun _ => hsty.onMem fun _ => rfl, onZpx_iff.2 fun _ => hsty.onMem fun _ => rfl,
      onAbs_iff.2 fun _ => hsty.onMem fun _ => rfl⟩

/-! ### Transfers (R186-R189, R167, R168) -/

/-- An instruction of one byte that gives A a value does that and nothing else. -/
theorem onImp_of_opWriteA {i : Instr} {v : State → Byte} (hi : ∀ s, exec i s = opWriteA (v s) s) :
    OnImp i fun s t => AGets s (v s) t :=
  fun s => ⟨_, hi s, rfl, s.aGets_setA_setNZ (v s)⟩

/-- Settles O4: five transfers give a register a value and set Z and N of it; TXS touches no flag. -/
theorem transfersMoveOneRegister : Obligations.TransfersMoveOneRegister := by
  unfold Obligations.TransfersMoveOneRegister
  refine ⟨onImp_of_opWriteX fun _ => rfl, onImp_of_opWriteY fun _ => rfl, onImp_of_opWriteA fun _ => rfl,
    onImp_of_opWriteA fun _ => rfl, onImp_of_opWriteX fun _ => rfl, ?txs⟩
  case txs => exact fun _ => ⟨_, rfl, rfl, ⟨rfl, rfl, rfl, rfl⟩, rfl, fun _ => rfl⟩

end Sys2Proof.Machine
end

section
/-! PROOFS. Logic, bit test, flag instructions and NOP (48_logic_flags_nop.md): a result given to A with its Z and N, and
flags written one by one. -/

namespace Sys2Proof.Machine

open Sys2Proof.Stating

/-! ### AND, ORA, EOR (R190-R192) -/

theorem opAnd_onSource : OnSource opAnd fun s m t => AGets s (s.a &&& m) t :=
  fun o s => ⟨_, rfl, rfl, s.aGets_setA_setNZ (s.a &&& s.sourceByte o)⟩

theorem opOra_onSource : OnSource opOra fun s m t => AGets s (s.a ||| m) t :=
  fun o s => ⟨_, rfl, rfl, s.aGets_setA_setNZ (s.a ||| s.sourceByte o)⟩

theorem opEor_onSource : OnSource opEor fun s m t => AGets s (s.a ^^^ m) t :=
  fun o s => ⟨_, rfl, rfl, s.aGets_setA_setNZ (s.a ^^^ s.sourceByte o)⟩

/-- Settles O25: every form gives A its combination with the Byte its operand gives. -/
theorem logicCombinesIntoA : Obligations.LogicCombinesIntoA := by
  unfold Obligations.LogicCombinesIntoA
  exact ⟨opAnd_onSource.onReading8 (fun _ _ => ⟨rfl, rfl, rfl, rfl, rfl⟩) (fun _ _ => ⟨rfl, rfl, rfl⟩),
    opOra_onSource.onReading8 (fun _ _ => ⟨rfl, rfl, rfl, rfl, rfl⟩) (fun _ _ => ⟨rfl, rfl, rfl⟩),
    opEor_onSource.onReading8 (fun _ _ => ⟨rfl, rfl, rfl, rfl, rfl⟩) (fun _ _ => ⟨rfl, rfl, rfl⟩)⟩

/-! ### BIT (R193) -/

@[simp] theorem State.flag_setFlag_self (s : State) (f : Flag) (b : Bool) : (s.setFlag f b).flag f = b :=
  getFlag_setFlag_self s.p f b

/-- Three flags written one after the other read as written, and no other flag changes. -/
theorem State.flags_setFlag_z_n_v (s : State) (z n v : Bool) :
    let t := ((s.setFlag .z z).setFlag .n n).setFlag .v v
    t.flag .z = z ∧ t.flag .n = n ∧ t.flag .v = v ∧ FlagsKept [.c, .i, .d, .b, .u] s t := by
  simp [FlagsKept, State.flag_setFlag_of_ne]

/-- Settles O26: both forms write the three flags of the byte they read. -/
theorem bitTestsWithoutWriting : Obligations.BitTestsWithoutWriting := by
  unfold Obligations.BitTestsWithoutWriting
  intro post
  have hbit : OnOperand opBit (reading post) := by
    intro m s
    obtain ⟨hz, hn, hv, hkept⟩ := s.flags_setFlag_z_n_v ((s.a &&& s.read (s.ea m)) == 0)
      ((s.read (s.ea m)).getLsbD 7) ((s.read (s.ea m)).getLsbD 6)
    exact ⟨_, rfl, rfl, hz.trans (beq_eq_decide ..), hn, hv, hkept, ⟨rfl, rfl, rfl, rfl⟩, fun _ => rfl⟩
  exact ⟨onZp_iff.2 fun _ => hbit.onMem fun _ => rfl, onAbs_iff.2 fun _ => hbit.onMem fun _ => rfl⟩

/-! ### The flag instructions (R194-R200) -/

/-- An instruction of one byte that writes a flag writes no other and nothing else. -/
theorem onImp_of_opFlag {i : Instr} {f : Flag} {b : Bool} (hi : ∀ s, exec i s = opFlag f b s) :
    OnImp i (WritesFlag f b) :=
  fun s => ⟨_, hi s, rfl, s.flag_setFlag_self f b, fun _ hg => s.flag_setFlag_of_ne b hg, ⟨rfl, rfl, rfl, rfl⟩,
    fun _ => rfl⟩

/-- Settles O27: each instruction is the write of its flag. -/
theorem flagInstructionsWriteOneFlag : Obligations.FlagInstructionsWriteOneFlag := by
  unfold Obligations.FlagInstructionsWriteOneFlag
  exact ⟨onImp_of_opFlag fun _ => rfl, onImp_of_opFlag fun _ => rfl, onImp_of_opFlag fun _ => rfl,
    onImp_of_opFlag fun _ => rfl, onImp_of_opFlag fun _ => rfl, onImp_of_opFlag fun _ => rfl,
    onImp_of_opFlag fun _ => rfl⟩

/-! ### NOP (R201, R232) -/

/-- What the tag NOP does, whatever the opcode: PC moves by the instruction's length. -/
theorem onlyAdvances_of_nop {i : Instr} (h : i.mnemonic = .nop) : OnlyAdvances i i.length := by
  intro s
  rw [exec_eq_effect, h]
  rfl

/-- Settles O28: every listed instruction has the tag NOP and its format's length. -/
theorem nopsOnlyAdvancePC : Obligations.NopsOnlyAdvancePC := by
  unfold Obligations.NopsOnlyAdvancePC
  simp only [List.forall_mem_cons, List.not_mem_nil, false_imp_iff, implies_true, and_true]
  refine ⟨?imp, fun ii => ?imm, fun zz => ?zp, fun w => ?abs⟩
  all_goals and_intros <;> exact onlyAdvances_of_nop rfl

end Sys2Proof.Machine
end

section
/-! PROOFS. The undocumented opcodes (49_undocumented.md): a read-modify-write one is its two documented instructions one
after the other, and each operation's result, flags and written byte. -/

namespace Sys2Proof.Machine

open Sys2Proof.Stating

/-! ### SetNZ written over

The second instruction of a composition writes Z and N again, and reads neither. -/

theorem setNZ_setNZ (p q r : Byte) : setNZ (setNZ p q) r = setNZ p r := by
  apply eq_of_getFlag_eq
  intro f
  cases f <;> simp [getFlag_setNZ_of_ne]

/-- SetNZ and a write of another flag touch different bits. -/
theorem setFlag_setNZ_comm (p r : Byte) {f : Flag} (b : Bool) (hz : f ≠ .z) (hn : f ≠ .n) :
    setFlag (setNZ p r) f b = setNZ (setFlag p f b) r := by
  apply eq_of_getFlag_eq
  intro g
  by_cases hg : g = f
  · rw [hg, getFlag_setFlag_self, getFlag_setNZ_of_ne _ _ hz hn, getFlag_setFlag_self]
  · rw [getFlag_setFlag_of_ne _ _ hg]
    cases g <;> simp [getFlag_setNZ_of_ne, getFlag_setFlag_of_ne _ _ hg]

theorem State.setFlag_setNZ_comm (s : State) (r : Byte) {f : Flag} (b : Bool) (hz : f ≠ .z) (hn : f ≠ .n) :
    (s.setNZ r).setFlag f b = (s.setFlag f b).setNZ r :=
  congrArg s.setP (Sys2Proof.Machine.setFlag_setNZ_comm s.p r b hz hn)

theorem State.setNZ_setA_setNZ (s : State) (q a r : Byte) : ((s.setNZ q).setA a).setNZ r = (s.setA a).setNZ r :=
  congrArg (s.setA a).setP (setNZ_setNZ s.p q r)

theorem State.addWithCarry_setNZ (s : State) (r m : Byte) : (s.setNZ r).addWithCarry m = s.addWithCarry m := by
  have hc : (s.setNZ r).flag .c = s.flag .c := s.flag_setNZ_of_ne r (by decide) (by decide)
  simp only [State.addWithCarry, hc, State.setNZ_a, State.setFlag_setNZ_comm _ r (f := .c) _ (by decide) (by decide),
    State.setFlag_setNZ_comm _ r (f := .v) _ (by decide) (by decide), State.setNZ_setA_setNZ]

theorem State.subtractWithCarry_setNZ (s : State) (r m : Byte) :
    (s.setNZ r).subtractWithCarry m = s.subtractWithCarry m := by
  rw [← State.addWithCarry_not, State.addWithCarry_setNZ, State.addWithCarry_not]

theorem State.compare_setNZ (s : State) (r reg m : Byte) : (s.setNZ r).compare reg m = s.compare reg m := by
  rw [State.compare, State.setFlag_setNZ_comm s r _ (by decide) (by decide)]
  exact congrArg (s.setFlag .c (cmpCarry reg m)).setP (setNZ_setNZ ..)

/-! ### The compositions (R210) -/

/-- The memory operands without a pointer: their effective address depends on X alone, so a write to memory between two
instructions cannot move it. -/
def DirectOperand (m : MemOperand) : Prop := ∀ s t : State, t.x = s.x → t.ea m = s.ea m

theorem directOperand_zp (zz : Byte) : DirectOperand (.zp zz) := fun _ _ _ => rfl

theorem directOperand_zpx (zz : Byte) : DirectOperand (.zpx zz) :=
  fun _ _ hx => congrArg (fun x => zext16 (zz + x)) hx

theorem directOperand_abs (hhll : Word) : DirectOperand (.abs hhll) := fun _ _ _ => rfl

theorem directOperand_absx (hhll : Word) : DirectOperand (.absx hhll) :=
  fun _ _ hx => congrArg (fun x => Indexed.ea ⟨hhll, x⟩) hx

/-- After the byte at a direct operand has been written, the operand gives that byte. -/
theorem sourceByte_of_written {m : MemOperand} (hm : DirectOperand m) {s t : State} {r : Byte} (hx : t.x = s.x)
    (hmem : t.mem = s.mem.write (s.ea m) r) : t.sourceByte (.mem m) = r := by
  rw [State.sourceByte, hm s t hx, State.read_eq, hmem, Memory.read_write_self]

/-- As it is after INC or DEC. -/
theorem sourceByte_write_setNZ {m : MemOperand} (hm : DirectOperand m) (s : State) (r q : Byte) :
    ((s.write (s.ea m) r).setNZ q).sourceByte (.mem m) = r :=
  sourceByte_of_written hm (s := s) rfl rfl

/-- As it is after a shift or rotate. -/
theorem sourceByte_writeBack_setFlag_setNZ {m : MemOperand} (hm : DirectOperand m) (s : State) (r q : Byte) (f : Flag)
    (b : Bool) : (((s.writeBack r (.mem m)).setFlag f b).setNZ q).sourceByte (.mem m) = r :=
  sourceByte_of_written hm (s := s) rfl rfl

/-- On a direct operand the operation `u` does what `g` does in the state that `f` leaves, PC apart. -/
def IsComposition (u f : MemOperand → State → Result) (g : Source → State → Result) : Prop :=
  ∀ m, DirectOperand m → ∀ s, ∃ t n, f m s = .next (t.advance n) ∧ t.pc = s.pc ∧ u m s = g (.mem m) t

theorem opSlo_isComposition : IsComposition opSlo (fun m => opAsl (.mem m)) opOra := by
  refine fun m hm s => ⟨_, _, rfl, rfl, ?_⟩
  rw [opOra, sourceByte_writeBack_setFlag_setNZ hm, State.setNZ_setA_setNZ]
  rfl

theorem opRla_isComposition : IsComposition opRla (fun m => opRol (.mem m)) opAnd := by
  refine fun m hm s => ⟨_, _, rfl, rfl, ?_⟩
  rw [opAnd, sourceByte_writeBack_setFlag_setNZ hm, State.setNZ_setA_setNZ]
  rfl

theorem opSre_isComposition : IsComposition opSre (fun m => opLsr (.mem m)) opEor := by
  refine fun m hm s => ⟨_, _, rfl, rfl, ?_⟩
  rw [opEor, sourceByte_writeBack_setFlag_setNZ hm, State.setNZ_setA_setNZ]
  rfl

theorem opRra_isComposition : IsComposition opRra (fun m => opRor (.mem m)) opAdc := by
  refine fun m hm s => ⟨_, _, rfl, rfl, ?_⟩
  rw [opAdc, sourceByte_writeBack_setFlag_setNZ hm, State.addWithCarry_setNZ]
  rfl

theorem opDcp_isComposition : IsComposition opDcp opDec opCmp := by
  refine fun m hm s => ⟨_, _, rfl, rfl, ?_⟩
  rw [opCmp, sourceByte_write_setNZ hm, State.compare_setNZ]
  rfl

theorem opIsc_isComposition : IsComposition opIsc opInc opSbc := by
  refine fun m hm s => ⟨_, _, rfl, rfl, ?_⟩
  rw [opSbc, sourceByte_write_setNZ hm, State.subtractWithCarry_setNZ]
  rfl

section
variable {u f : MemOperand → State → Result} {g : Source → State → Result}

/-- Instructions with these meanings compose: going back to the first's address undoes the move of PC. -/
theorem IsComposition.exec_eq_thenAt (h : IsComposition u f g) {m : MemOperand} (hm : DirectOperand m)
    {i first second : Instr}
    (hexec : ∀ s, exec i s = u m s ∧ exec first s = f m s ∧ exec second s = g (.mem m) s) (s : State) :
    exec i s = thenAt first second s := by
  simp only [forall_and] at hexec
  obtain ⟨hi, hfirst, hsecond⟩ := hexec
  obtain ⟨t, n, hf, hpc, hu⟩ := h m hm s
  have hback : (t.advance n).setPC s.pc = t := by rw [← hpc]; rfl
  calc exec i s = g (.mem m) t := (hi s).trans hu
    _ = exec second ((t.advance n).setPC s.pc) := by rw [hback, hsecond]
    _ = thenAt first second s := by rw [thenAt, hfirst, hf]

/-- The four forms of a composition: the two of a Byte operand, then the two of a Word. -/
theorem IsComposition.composed (h : IsComposition u f g) {u1 u2 f1 f2 g1 g2 : Byte → Instr}
    {u3 u4 f3 f4 g3 g4 : Word → Instr}
    (hzp : ∀ b s, exec (u1 b) s = u (.zp b) s ∧ exec (f1 b) s = f (.zp b) s ∧ exec (g1 b) s = g (.mem (.zp b)) s)
    (hzpx : ∀ b s, exec (u2 b) s = u (.zpx b) s ∧ exec (f2 b) s = f (.zpx b) s ∧
      exec (g2 b) s = g (.mem (.zpx b)) s)
    (habs : ∀ w s, exec (u3 w) s = u (.abs w) s ∧ exec (f3 w) s = f (.abs w) s ∧
      exec (g3 w) s = g (.mem (.abs w)) s)
    (habsx : ∀ w s, exec (u4 w) s = u (.absx w) s ∧ exec (f4 w) s = f (.absx w) s ∧
      exec (g4 w) s = g (.mem (.absx w)) s) :
    Composed u1 u2 u3 u4 f1 f2 f3 f4 g1 g2 g3 g4 :=
  fun s => ⟨fun b => h.exec_eq_thenAt (directOperand_zp b) (hzp b) s,
    fun b => h.exec_eq_thenAt (directOperand_zpx b) (hzpx b) s,
    fun w => h.exec_eq_thenAt (directOperand_abs w) (habs w) s,
    fun w => h.exec_eq_thenAt (directOperand_absx w) (habsx w) s⟩

end

/-- Settles O33: on a direct operand the second instruction reads the byte the first wrote, and it overwrites the Z and N
the first set. -/
theorem undocumentedAreCompositions : Obligations.UndocumentedAreCompositions := by
  unfold Obligations.UndocumentedAreCompositions
  refine ⟨?slo, ?rla, ?sre, ?rra, ?dcp, ?isc⟩
  case slo =>
    exact opSlo_isComposition.composed (fun _ _ => ⟨rfl, rfl, rfl⟩) (fun _ _ => ⟨rfl, rfl, rfl⟩)
      (fun _ _ => ⟨rfl, rfl, rfl⟩) (fun _ _ => ⟨rfl, rfl, rfl⟩)
  case rla =>
    exact opRla_isComposition.composed (fun _ _ => ⟨rfl, rfl, rfl⟩) (fun _ _ => ⟨rfl, rfl, rfl⟩)
      (fun _ _ => ⟨rfl, rfl, rfl⟩) (fun _ _ => ⟨rfl, rfl, rfl⟩)
  case sre =>
    exact opSre_isComposition.composed (fun _ _ => ⟨rfl, rfl, rfl⟩) (fun _ _ => ⟨rfl, rfl, rfl⟩)
      (fun _ _ => ⟨rfl, rfl, rfl⟩) (fun _ _ => ⟨rfl, rfl, rfl⟩)
  case rra =>
    exact opRra_isComposition.composed (fun _ _ => ⟨rfl, rfl, rfl⟩) (fun _ _ => ⟨rfl, rfl, rfl⟩)
      (fun _ _ => ⟨rfl, rfl, rfl⟩) (fun _ _ => ⟨rfl, rfl, rfl⟩)
  case dcp =>
    exact opDcp_isComposition.composed (fun _ _ => ⟨rfl, rfl, rfl⟩) (fun _ _ => ⟨rfl, rfl, rfl⟩)
      (fun _ _ => ⟨rfl, rfl, rfl⟩) (fun _ _ => ⟨rfl, rfl, rfl⟩)
  case isc =>
    exact opIsc_isComposition.composed (fun _ _ => ⟨rfl, rfl, rfl⟩) (fun _ _ => ⟨rfl, rfl, rfl⟩)
      (fun _ _ => ⟨rfl, rfl, rfl⟩) (fun _ _ => ⟨rfl, rfl, rfl⟩)

/-! ### SLO, RLA, SRE (R211-R213) -/

/-- A written byte reads back, and every other byte is as before. -/
theorem State.stored_write (s : State) (ea : Word) (r : Byte) : Stored s (s.write ea r) ea r :=
  ⟨s.read_write_self ea r, fun _ ha => s.read_write_of_ne r ha⟩

/-- The byte shifted, C the bit shifted out, then A combined with the result. -/
theorem State.shiftsThen_write_setFlag_setA_setNZ (s : State) (ea : Word) (n : Nat) {res : Nat → Nat → Nat}
    (out : Byte → Bool) (comb : Byte → Byte → Byte) {r : Byte}
    (hr : r = BitVec.ofNat 8 (res (s.read ea).toNat (num (s.flag .c)))) :
    ShiftsThen res out comb s ea
      (((((s.write ea r).setFlag .c (out (s.read ea))).setA (comb s.a r)).setNZ (comb s.a r)).advance n) := by
  subst hr
  exact ⟨s.stored_write ea _, ⟨rfl, rfl, rfl, rfl⟩, ((s.write ea _).setA _).shiftFlags_setFlag_setNZ _ _⟩

theorem opSlo_onOperand : OnOperand opSlo (ShiftsThen asl bit7 fun a r => a ||| r) :=
  fun m s => ⟨_, rfl, rfl, s.shiftsThen_write_setFlag_setA_setNZ (s.ea m) m.length bit7 _ (aslResult_eq_ofNat ..)⟩

theorem opRla_onOperand : OnOperand opRla (ShiftsThen rol bit7 fun a r => a &&& r) :=
  fun m s => ⟨_, rfl, rfl, s.shiftsThen_write_setFlag_setA_setNZ (s.ea m) m.length bit7 _ (rolResult_eq_ofNat ..)⟩

theorem opSre_onOperand : OnOperand opSre (ShiftsThen lsr bit0 fun a r => a ^^^ r) :=
  fun m s => ⟨_, rfl, rfl, s.shiftsThen_write_setFlag_setA_setNZ (s.ea m) m.length bit0 _ (lsrResult_eq_ofNat ..)⟩

/-- Settles O29: every form is the shift of the byte at its operand's effective address and the combination with A. -/
theorem sloRlaSreShiftThenCombine : Obligations.SloRlaSreShiftThenCombine := by
  unfold Obligations.SloRlaSreShiftThenCombine
  refine ⟨?slo, ?rla, ?sre⟩
  case slo =>
    exact opSlo_onOperand.onMemory7 (fun _ _ => ⟨rfl, rfl⟩) (fun _ _ => ⟨rfl, rfl⟩) (fun _ _ => rfl)
      (fun _ _ => rfl) (fun _ _ => rfl)
  case rla =>
    exact opRla_onOperand.onMemory7 (fun _ _ => ⟨rfl, rfl⟩) (fun _ _ => ⟨rfl, rfl⟩) (fun _ _ => rfl)
      (fun _ _ => rfl) (fun _ _ => rfl)
  case sre =>
    exact opSre_onOperand.onMemory7 (fun _ _ => ⟨rfl, rfl⟩) (fun _ _ => ⟨rfl, rfl⟩) (fun _ _ => rfl)
      (fun _ _ => rfl) (fun _ _ => rfl)

/-! ### RRA, DCP, ISC (R214, R217, R218): the second step runs in the state with the byte already written -/

/-- What an addition says of the state before it does not look at the carry stored there. -/
theorem added_of_added_setFlag_carry {s t : State} {b c : Bool} {m : Byte} (h : Added (s.setFlag .c b) m c t) :
    Added s m c t := by
  obtain ⟨ha, hc, hv, hnz, hx, hy, hsp, hkept⟩ := h
  refine ⟨ha, hc, hv, hnz, hx, hy, hsp, fun f hf => (hkept f hf).trans (s.flag_setFlag_of_ne b ?_)⟩
  exact ne_of_mem_of_not_mem hf (by decide)

/-- The ADC step on a Byte just written, with a carry just left. -/
theorem State.added_write_setFlag_addWithCarry (s : State) (ea : Word) (r : Byte) (b : Bool) :
    Added s r b (((s.write ea r).setFlag .c b).addWithCarry r) := by
  have hadd := ((s.write ea r).setFlag .c b).addWithCarry_added r
  rw [State.flag_setFlag_self] at hadd
  exact added_of_added_setFlag_carry hadd

/-- Settles O30: the carry that the rotate leaves is the carry-in of the ADC step. -/
theorem rraRotatesThenAdds : Obligations.RraRotatesThenAdds := by
  unfold Obligations.RraRotatesThenAdds
  simp only [← rorResult_eq_ofNat]
  have hrra : OnOperand opRra fun s ea t =>
      let r := rorResult (s.read ea) (s.flag .c)
      Stored s t ea r ∧ Added s r (bit0 (s.read ea)) t :=
    fun m s => ⟨_, rfl, rfl, s.stored_write (s.ea m) _, s.added_write_setFlag_addWithCarry (s.ea m) _ _⟩
  exact hrra.onMemory7 (fun _ _ => ⟨rfl, rfl⟩) (fun _ _ => ⟨rfl, rfl⟩) (fun _ _ => rfl) (fun _ _ => rfl)
    (fun _ _ => rfl)

/-- Settles O31: the compare step runs on the decremented byte. -/
theorem dcpDecrementsThenCompares : Obligations.DcpDecrementsThenCompares := by
  unfold Obligations.DcpDecrementsThenCompares
  simp only [← sub_one_eq_ofNat]
  have hdcp : OnOperand opDcp fun s ea t => Stored s t ea (s.read ea - 1) ∧ Compared s.a s (s.read ea - 1) t :=
    fun m s => ⟨_, rfl, rfl, s.stored_write (s.ea m) _, (s.write (s.ea m) _).compare_compared s.a _⟩
  exact hdcp.onMemory7 (fun _ _ => ⟨rfl, rfl⟩) (fun _ _ => ⟨rfl, rfl⟩) (fun _ _ => rfl) (fun _ _ => rfl)
    (fun _ _ => rfl)

/-- Settles O32: the SBC step runs on the incremented byte, with the old carry. -/
theorem iscIncrementsThenSubtracts : Obligations.IscIncrementsThenSubtracts := by
  unfold Obligations.IscIncrementsThenSubtracts
  simp only [← add_one_eq_ofNat]
  have hisc : OnOperand opIsc fun s ea t =>
      Stored s t ea (s.read ea + 1) ∧ Subtracted s (s.read ea + 1) (s.flag .c) t :=
    fun m s => ⟨_, rfl, rfl, s.stored_write (s.ea m) _, (s.write (s.ea m) _).subtractWithCarry_subtracted _⟩
  exact hisc.onMemory7 (fun _ _ => ⟨rfl, rfl⟩) (fun _ _ => ⟨rfl, rfl⟩) (fun _ _ => rfl) (fun _ _ => rfl)
    (fun _ _ => rfl)

/-! ### SAX, LAX, LAS (R215, R216, R226) -/

/-- Settles O34: SAX is a store of `A & X`; LAX gives two registers one byte, and Z and N of it. -/
theorem saxStoresLaxLoads : Obligations.SaxStoresLaxLoads := by
  unfold Obligations.SaxStoresLaxLoads
  intro sax lax
  have hsax : OnOperand (fun m s => opStore (s.a &&& s.x) m s) sax := opStore_onOperand fun s => s.a &&& s.x
  have hlax : OnOperand opLax lax := fun m s =>
    ⟨_, rfl, rfl, ⟨rfl, rfl, rfl, rfl⟩, State.nz_setNZ _ _, State.flagsKept_setNZ _ _ (by decide) (by decide),
      fun _ => rfl⟩
  refine ⟨?sax, ?lax⟩
  case sax =>
    exact ⟨onZp_iff.2 fun _ => hsax.onMem fun _ => rfl, onZpy_iff.2 fun _ => hsax.onMem fun _ => rfl,
      onAbs_iff.2 fun _ => hsax.onMem fun _ => rfl, onIzx_iff.2 fun _ => hsax.onMem fun _ => rfl⟩
  case lax =>
    exact ⟨onZp_iff.2 fun _ => hlax.onMem fun _ => rfl, onZpy_iff.2 fun _ => hlax.onMem fun _ => rfl,
      onAbs_iff.2 fun _ => hlax.onMem fun _ => rfl, onAbsy_iff.2 fun _ => hlax.onMem fun _ => rfl,
      onIzx_iff.2 fun _ => hlax.onMem fun _ => rfl, onIzy_iff.2 fun _ => hlax.onMem fun _ => rfl⟩

/-- Settles O39: one value to three registers, and Z and N of it. -/
theorem lasLoadsThreeRegisters : Obligations.LasLoadsThreeRegisters := by
  unfold Obligations.LasLoadsThreeRegisters
  exact onAbsy_iff.2 fun _ _ =>
    ⟨_, rfl, rfl, ⟨rfl, rfl, rfl, rfl⟩, State.nz_setNZ _ _, State.flagsKept_setNZ _ _ (by decide) (by decide),
      fun _ => rfl⟩

/-! ### The immediate operations (R219-R224) -/

/-- Settles O35: writing C after SetNZ is writing it before, as a shift does. -/
theorem ancCopiesBitSevenToCarry : Obligations.AncCopiesBitSevenToCarry := by
  unfold Obligations.AncCopiesBitSevenToCarry
  have hanc : ∀ i : Byte → Instr, (∀ ii s, exec (i ii) s = opAnc ii s) → OnImm i fun s ii t =>
      Regs t (s.a &&& ii) s.x s.y s.sp ∧ ShiftFlags s (s.a &&& ii) (bit7 (s.a &&& ii)) t ∧ MemoryKept s t := by
    intro i hi ii s
    have hflags := (s.setA (s.a &&& ii)).shiftFlags_setFlag_setNZ (s.a &&& ii) (bit7 (s.a &&& ii))
    rw [← State.setFlag_setNZ_comm _ _ _ (by decide) (by decide)] at hflags
    exact ⟨_, hi ii s, rfl, ⟨rfl, rfl, rfl, rfl⟩, hflags, fun _ => rfl⟩
  simp only [List.forall_mem_cons, List.not_mem_nil, false_imp_iff, implies_true, and_true]
  exact ⟨hanc .ancImm0B fun _ _ => rfl, hanc .ancImm2B fun _ _ => rfl⟩

/-- ARR's flags: Z and N of the result, then C and V from bits 6 and 5 of it. -/
theorem State.flags_setNZ_setFlag_c_v (s : State) (r : Byte) (c v : Bool) :
    let t := ((s.setNZ r).setFlag .c c).setFlag .v v
    NZ r t ∧ t.flag .c = c ∧ t.flag .v = v ∧ FlagsKept [.i, .d, .b, .u] s t := by
  obtain ⟨hz, hn⟩ := s.nz_setNZ r
  simp [NZ, FlagsKept, State.flag_setFlag_of_ne, State.flag_setNZ_of_ne, hz, hn]

/-- Settles O36: ALR writes the flags of a shift; ARR writes C and V after Z and N. -/
theorem alrArrShiftTheAnd : Obligations.AlrArrShiftTheAnd := by
  unfold Obligations.AlrArrShiftTheAnd
  simp only [← lsrResult_eq_ofNat, ← rorResult_eq_ofNat]
  refine ⟨fun ii s => ?alr, fun ii s => ?arr⟩
  case alr =>
    exact ⟨_, rfl, rfl, ⟨rfl, rfl, rfl, rfl⟩, (s.setA (lsrResult (s.a &&& ii))).shiftFlags_setFlag_setNZ _ _,
      fun _ => rfl⟩
  case arr =>
    obtain ⟨hnz, hc, hv, hkept⟩ := (s.setA (rorResult (s.a &&& ii) (s.flag .c))).flags_setNZ_setFlag_c_v
      (rorResult (s.a &&& ii) (s.flag .c)) (arrCarry (rorResult (s.a &&& ii) (s.flag .c)))
      (arrOverflow (rorResult (s.a &&& ii) (s.flag .c)))
    exact ⟨_, rfl, rfl, ⟨rfl, rfl, rfl, rfl⟩, hnz, hc, hv, hkept, fun _ => rfl⟩

/-- With every bit of the constant set, the old A is lost, and the mask lets the whole operand through (R222, R223). -/
theorem or_ff_and (a m : Byte) : (a ||| 0xFF) &&& m = m := by
  have hones : (0xFF : Byte) = BitVec.allOnes 8 := rfl
  rw [hones, BitVec.or_allOnes, BitVec.allOnes_and]

/-- Settles O37: the constants of both are 0xFF. -/
theorem xaaLxaIgnoreOldA : Obligations.XaaLxaIgnoreOldA := by
  unfold Obligations.XaaLxaIgnoreOldA
  refine ⟨fun ii s => ?xaa, fun ii s => ?lxa⟩
  case xaa =>
    have hr : (s.a ||| Config.xaaMagic) &&& s.x &&& ii = s.x &&& ii := by rw [Config.xaaMagic, or_ff_and]
    refine ⟨_, rfl, rfl, ?_⟩
    rw [hr]
    exact s.aGets_setA_setNZ (s.x &&& ii)
  case lxa =>
    have hr : (s.a ||| Config.lxaMagic) &&& ii = ii := or_ff_and s.a ii
    refine ⟨_, rfl, rfl, ?_⟩
    rw [hr]
    exact ⟨⟨rfl, rfl, rfl, rfl⟩, State.nz_setNZ _ ii, State.flagsKept_setNZ _ ii (by decide) (by decide),
      fun _ => rfl⟩

/-- Settles O38: the compare step gives the flags, its result is X. -/
theorem sbxSubtractsFromAAndX : Obligations.SbxSubtractsFromAAndX := by
  unfold Obligations.SbxSubtractsFromAAndX
  intro ii s
  obtain ⟨hc, hnz, -, hkept⟩ := s.compare_compared (s.a &&& s.x) ii
  exact ⟨_, rfl, rfl, ⟨rfl, cmpResult_eq_ofNat .., rfl, rfl⟩, hc, hnz, hkept, fun _ => rfl⟩

/-! ### The high-byte stores (R227-R231) -/

theorem highStoreByte_eq_ofNat (t : Indexed) (val : Byte) :
    highStoreByte t val = val &&& BitVec.ofNat 8 (t.base.toNat / 256 + 1) := by
  rw [highStoreByte, hiByte_eq_ofNat, BitVec.ofNat_add]
  rfl

theorem hiByte_toNat (w : Word) : (hiByte w).toNat = w.toNat / 256 := by
  have hw := w.isLt
  rw [hiByte_eq_ofNat, BitVec.toNat_ofNat]
  omega

theorem indexed_ea_toNat (t : Indexed) : t.ea.toNat = (t.base.toNat + t.index.toNat) % 65536 := by
  rw [ea_absIndexed, addr, BitVec.toNat_ofNat]

theorem highStoreAddr_eq_addr (t : Indexed) (val : Byte) :
    highStoreAddr t val = if t.base.toNat / 256 ≠ t.ea.toNat / 256
      then addr ((highStoreByte t val).toNat * 256 + t.ea.toNat % 256) else addr t.ea.toNat := by
  have hpage : hiByte t.base ≠ hiByte t.ea ↔ t.base.toNat / 256 ≠ t.ea.toNat / 256 := by
    rw [ne_eq, ← BitVec.toNat_inj, hiByte_toNat, hiByte_toNat]
  have hlow : (loByte t.ea).toNat = t.ea.toNat % 256 := by
    rw [loByte_eq_ofNat, BitVec.toNat_ofNat]
  simp only [highStoreAddr, hpage, joinBytes_eq_addr, hlow, addr_toNat]

/-- The store of R227, in the words of the statement. -/
theorem State.highStored_highByteStore (s : State) (t : Indexed) (val : Byte) :
    HighStored t.base.toNat t.index.toNat val s (s.highByteStore t val) := by
  rw [HighStored, ← indexed_ea_toNat, ← highStoreByte_eq_ofNat, ← highStoreAddr_eq_addr]
  exact s.stored_write (highStoreAddr t val) (highStoreByte t val)

/-- A pointer's Word has the pointer's number. -/
theorem readZeroPageWord_toNat (s : State) (z : Byte) : (s.mem.readZeroPageWord z).toNat = pointer s z.toNat := by
  rw [Memory.readZeroPageWord, joinBytes_toNat, zext16_add, zext16_eq_addr]
  rfl

/-- Settles O40: every form is the high-byte store at its base and index; TAS writes SP first, which no store reads. -/
theorem highByteStores : Obligations.HighByteStores := by
  unfold Obligations.HighByteStores
  refine ⟨fun hhll s => ?shaAbsy, fun zz s => ?shaIzy, fun hhll s => ?shx, fun hhll s => ?shy, fun hhll s => ?tas⟩
  case shaAbsy =>
    exact ⟨_, rfl, rfl, s.highStored_highByteStore (s.absy hhll) (s.a &&& s.x), ⟨rfl, rfl, rfl, rfl⟩, rfl⟩
  case shaIzy =>
    rw [← readZeroPageWord_toNat]
    exact ⟨_, rfl, rfl, s.highStored_highByteStore (s.izy zz) (s.a &&& s.x), ⟨rfl, rfl, rfl, rfl⟩, rfl⟩
  case shx => exact ⟨_, rfl, rfl, s.highStored_highByteStore (s.absy hhll) s.x, ⟨rfl, rfl, rfl, rfl⟩, rfl⟩
  case shy => exact ⟨_, rfl, rfl, s.highStored_highByteStore (s.absx hhll) s.y, ⟨rfl, rfl, rfl, rfl⟩, rfl⟩
  case tas =>
    exact ⟨_, rfl, rfl, (s.setSP (s.a &&& s.x)).highStored_highByteStore (s.absy hhll) (s.a &&& s.x),
      ⟨rfl, rfl, rfl, rfl⟩, rfl⟩

/-! ### JAM (R233) -/

/-- What the tag JAM does, whatever the opcode. -/
theorem exec_of_jam {i : Instr} (h : i.mnemonic = .jam) (s : State) : exec i s = .fault .stopped := by
  rw [exec_eq_effect, h]
  rfl

/-- The opcode map has JAM at the twelve opcodes (30_encoding.md R77). -/
theorem tableEntry_of_halt_opcode :
    ∀ op ∈ [(0x02 : Byte), 0x12, 0x22, 0x32, 0x42, 0x52, 0x62, 0x72, 0x92, 0xB2, 0xD2, 0xF2],
      (tableEntry op).map Prod.fst = some .jam := by decide

/-- A stopped step shows the host the state before it (00_scope.md R12). -/
theorem State.hostStep_of_stopped {s : State} (h : step s = .fault .stopped) : s.hostStep = (.stopped, s) := by
  rw [State.hostStep, h]

/-- Settles O41: the host gets back the state it had, so a further step stops again. -/
theorem jamStopsUnchanged : Obligations.JamStopsUnchanged := by
  unfold Obligations.JamStopsUnchanged
  refine ⟨?exec, fun s hs => ?host⟩
  case exec =>
    have htag : ∀ i ∈ [Instr.jam02, .jam12, .jam22, .jam32, .jam42, .jam52, .jam62, .jam72, .jam92, .jamB2, .jamD2,
        .jamF2], i.mnemonic = .jam := by decide
    exact fun i hi s => exec_of_jam (htag i hi) s
  case host =>
    have hjam : AtJam s := tableEntry_of_halt_opcode (s.read s.pc) hs
    have hstop := State.hostStep_of_stopped ((stoppedExactlyAtJam s).2 hjam)
    exact ⟨hstop, by rw [hstop]; exact hstop⟩

end Sys2Proof.Machine
end

section
/-! PROOFS. Exceptions (60_exceptions.md): a step completes or stops at a JAM. -/

namespace Sys2Proof.Machine

open Sys2Proof.Stating

/-- Settles O54: every fetch answers an instruction, and its meaning completes unless it is a JAM. -/
theorem stepNeverErrs : Obligations.StepNeverErrs := by
  unfold Obligations.StepNeverErrs
  intro s
  obtain ⟨i, hfetch, -⟩ := s.exists_fetch
  rw [StepSafe, step_of_fetch hfetch]
  by_cases hjam : i.mnemonic = .jam
  · exact .inr (exec_of_jam hjam s)
  · rw [exec_eq_effect]
    exact .inl (exists_effect_eq_next hjam i.operand s)

end Sys2Proof.Machine
end

section
/-! PROOFS. Reset (70_reset_and_hazards.md): the registers after `reset()`, and the constructed state as a reset of
all-zero memory. -/

namespace Sys2Proof.Machine

open Sys2Proof.Stating

/-- Settles O47: the vector's low byte stands at 0xFFFC. -/
theorem hostResetState : Obligations.HostResetState := by
  unfold Obligations.HostResetState
  intro s
  exact ⟨⟨rfl, rfl, rfl, rfl⟩, rfl, joinBytes_eq_addr .., fun _ => rfl⟩

/-- Settles O48: the constructed memory lists no cell. -/
theorem constructedStateMeetsInvariant : Obligations.ConstructedStateMeetsInvariant := by
  unfold Obligations.ConstructedStateMeetsInvariant
  exact ⟨Memory.nil_wf, rfl, fun _ => rfl⟩

end Sys2Proof.Machine
end
